-- ==== Sys2Proof/Word.lean ====
section
/-! DEFINITION. The word types of the LR35902 (00_scope.md R6): bytes and 16-bit words, which wrap. -/

namespace Sys2Proof

/-- A `u8` (R7): register halves, memory bytes, immediates. -/
abbrev Byte := BitVec 8

/-- A `u16` (R7): register pairs, SP, PC and bus addresses; arithmetic is modulo 2^16 (D2). -/
abbrev Word := BitVec 16

/-- A two-bit shade or bank number. -/
abbrev Shade := BitVec 2

end Sys2Proof
end

