-- ==== Sys2Proof/Machine/Bytes.lean ====
section
/-! DEFINITION. Byte order, sign extension and bit fields (00_scope.md R7, R8; 20_memory.md R80). -/

namespace Sys2Proof

/-- `v[15:8]` (R7). -/
def hiByte (w : Word) : Byte := w.extractLsb' 8 8

/-- `v[7:0]` (R7). -/
def loByte (w : Word) : Byte := w.extractLsb' 0 8

/-- `(hi << 8) | lo`, the pair `{hi, lo}` of R7 and R31. -/
def mkWord (hi lo : Byte) : Word := hi ++ lo

/-- `sext_16(v)` (R8). -/
def sext16 (b : Byte) : Word := b.signExtend 16

/-- `zext_16(v)` (R8). -/
def zext16 (b : Byte) : Word := b.setWidth 16

/-- `GetBit(byte, index)` of the BitOps (45_bit.md R350), as a truth value. -/
def getBit (b : Byte) (i : Nat) : Bool := b.getLsbD i

/-- `ClearBit(byte, index)`, that is `v & ~(1 << b)` (R353). -/
def clearBit (b : Byte) (i : Nat) : Byte := b &&& ~~~(1#8 <<< i)

/-- `SetBit(byte, index)`, that is `v | (1 << b)` (R355). -/
def setBit (b : Byte) (i : Nat) : Byte := b ||| (1#8 <<< i)

/-- The high-page address `0xFF00 + zext_16(n)` of LDH and LD (C) (30_encoding.md R166). -/
def highPage (n : Byte) : Word := 0xFF00#16 + zext16 n

end Sys2Proof
end

