-- ==== Sys2Proof/WellFormed.lean ====
section
/-! DEFINITION. Which instructions are well formed: operands have exactly the width of their encoding, so the one thing left to
check is that an instruction has one spelling. PREFIX CB is the escape byte, and "the instruction is the CB row selected by the
second byte" (the table's note, R407); the row itself is never what a decoder reads (log 10). -/

namespace Sys2Proof

/-- Every constructor but the escape. -/
def WellFormed : Instr → Bool
  | .prefix_CB _ => false
  | _ => true

end Sys2Proof
end

