-- ==== Sys2Proof/Config.lean ====
section
/-! DEFINITION. The parameters of 00_scope.md R6 that may differ from machine to machine, as plain data.
DESIGN CHOICE (log 4): a state carries its parameters in the field `cfg`, which no step and no host interaction
changes, so that a claim about every state is a claim about every parameter value (91_not_in_source.md asks for
that). Safe; only a claim about `State.reset` rests on the default values. -/

namespace Sys2Proof

/-- `MBC1_UPPER_BITS_SOURCE` (R6, D10). -/
inductive UpperBitsSource
  | dataBits5to6
  | dataBits1to0
deriving DecidableEq, Repr

/-- `LCD_MODE_POSITION` (R6, D30). -/
inductive ModePosition
  | countdown
  | ascending
deriving DecidableEq, Repr

/-- `TILE_PLANE_OFFSET` (R6, D34). -/
inductive PlaneLayout
  | offset8
  | interleaved
deriving DecidableEq, Repr

/-- `ACC_ROTATE_Z` (R6, D25). -/
inductive AccRotateZ
  | clear
  | preserve
deriving DecidableEq, Repr

/-- What a cycle cost belongs to (70_reset_and_hazards.md R620): a base opcode (its cost when it has no condition, or when
its condition is false), a base opcode whose condition is true, or a CB second byte. -/
inductive CostKey
  | base (op : Byte)
  | taken (op : Byte)
  | cb (op : Byte)
deriving DecidableEq, Repr

/-- The parameters of R6. `cycleTable` is `CYCLE_TABLE` as the list of the costs that differ from the default table of R620;
the default costs stand in the meanings, as each instruction rule's "Cycles" line gives them (log 5). -/
structure Config where
  initMem           : Byte
  bootRom           : Option (List Byte)
  upperBits         : UpperBitsSource
  serialHookValue   : Byte
  modePosition      : ModePosition
  planeLayout       : PlaneLayout
  timerMultiTick    : Bool
  accRotateZ        : AccRotateZ
  cycleTable        : List (CostKey × Nat)
deriving DecidableEq, Repr

/-- Every parameter at the default of R6. -/
def Config.default : Config where
  initMem         := 0x00
  bootRom         := none
  upperBits       := .dataBits5to6
  serialHookValue := 0x81
  modePosition    := .countdown
  planeLayout     := .offset8
  timerMultiTick  := true
  accRotateZ      := .clear
  cycleTable      := []

end Sys2Proof
end

