-- ==== Sys2Proof/Machine/State.lean ====
section
/-! DEFINITION. The machine's state: the union of 10_state.md R30 to R78 as plain data, the reasons a step can stop, and reset. -/

namespace Sys2Proof.Machine

/-- A byte-addressed memory: the cells that differ from what an unlisted address reads as, addresses strictly rising. -/
abbrev Memory := List Host.Cell

/-- The record `UnimplementedOpcode(opcode, pc)` of R42 and R505: the byte and its address. -/
structure FaultRecord where
  opcode : Byte
  pc     : Word
deriving DecidableEq, Repr

/-- One pixel of the framebuffer: the bytes R, G, B (R50, R547). -/
structure Rgb where
  red   : Byte
  green : Byte
  blue  : Byte
deriving DecidableEq, Repr

/-- 144 rows of 160 pixels (R50; the shape: log 18). -/
abbrev Framebuffer := List (List Rgb)

/-- What the core hands to the host (60_exceptions.md R560): a serial character, or the framebuffer of a finished frame. -/
inductive HostOutput
  | serialOut (b : Byte)
  | present (frame : Framebuffer)
deriving DecidableEq, Repr

/-- Why a step answers a fault. -/
inductive Fault
  /-- Answered by `step` in a state whose `fault` is set (R42, R500: no step is enabled; R501: terminal). It repeats the
  record. The step that raised it answered the fault state (log 8). Safe: nothing runs after it, as the spec says. -/
  | unimplementedOpcode (opcode : Byte) (pc : Word)
deriving DecidableEq, Repr

/-- Why a step is refused. -/
inductive Refusal
  /-- Answered by an arm of `exec` for an instruction without a meaning. No arm of this model answers it. Safe. -/
  | notModelled (mnemonic : String)
  /-- Answered by `step` while `stopped` = 1: the hold of R10 and R500, in which no step is enabled until the host's KeyPress
  (R550) or a new LoadCartridge (R568). DEDUCED (log 7). Safe: nothing runs in a hold, as the spec says. -/
  | stoppedHold
deriving DecidableEq, Repr

/-- The machine (R30 to R78). `cfg` holds the parameters of R6 (log 4). `stepCycles` and `outputs` are the model's own fields:
the local variable `cycles` of R500 (log 15), and what the host was handed, newest first (log 14). -/
structure State where
  a : Byte
  f : Byte
  b : Byte
  c : Byte
  d : Byte
  e : Byte
  h : Byte
  l : Byte
  sp : Word
  pc : Word
  ime : Bool
  imePending : Bool
  halted : Bool
  stopped : Bool
  cycleCount : Nat
  fault : Option FaultRecord
  instructionsExecuted : Nat
  mem : Memory
  rom : Memory
  ram : Memory
  cartType : Byte
  romBank : BitVec 7
  ramBank : BitVec 2
  ramEnabled : Bool
  mbcMode : Bool
  divAcc : Nat
  timaAcc : Nat
  lcdAcc : Nat
  framebuffer : Framebuffer
  lineShade : List Shade
  buttons : Byte
  bootMapped : Bool
  cfg : Config
  stepCycles : Nat
  outputs : List HostOutput
deriving DecidableEq, Repr

/-- Right after reset (R76, R78, R604): LoadCartridge of the empty image, no boot ROM, every parameter at its default
(DESIGN CHOICE, log 1). No memory lists a cell: what an unlisted address reads as is the reset content. `lineShade` has no
reset value in the spec (DESIGN CHOICE, log 3). -/
def State.reset : State where
  a := 0x01
  f := 0xB0
  b := 0x00
  c := 0x13
  d := 0x00
  e := 0xD8
  h := 0x01
  l := 0x4D
  sp := 0xFFFE
  pc := 0x0100
  ime := false
  imePending := false
  halted := false
  stopped := false
  cycleCount := 0
  fault := none
  instructionsExecuted := 0
  mem := []
  rom := []
  ram := []
  cartType := 0x00
  romBank := 1
  ramBank := 0
  ramEnabled := false
  mbcMode := false
  divAcc := 0
  timaAcc := 0
  lcdAcc := 0
  framebuffer := List.replicate 144 (List.replicate 160 ⟨0, 0, 0⟩)
  lineShade := List.replicate 160 0
  buttons := 0x00
  bootMapped := false
  cfg := Config.default
  stepCycles := 0
  outputs := []

end Sys2Proof.Machine
end

