-- ==== Sys2Proof/Machine/Memory.lean ====
section
/-! DEFINITION. One canonical sparse memory, used for `mem`, `rom` and `ram` (10_state.md R44 to R46), and what an address
reads as when nothing has written it. -/

namespace Sys2Proof.Machine

/-- The listed byte at `a`, if any. -/
def Memory.lookup : Memory → Nat → Option Byte
  | [], _ => none
  | (k, v) :: m, a => if k = a then some v else Memory.lookup m a

/-- Put the cell `(a, v)` before the first larger address. -/
def Memory.insert : Memory → Nat → Byte → Memory
  | [], a, v => [(a, v)]
  | (k, w) :: m, a, v => if a < k then (a, v) :: (k, w) :: m else (k, w) :: Memory.insert m a v

/-- The byte at `a`, where `dflt` says what an unlisted address reads as. -/
def Memory.read (dflt : Nat → Byte) (m : Memory) (a : Nat) : Byte :=
  match Memory.lookup m a with
  | some v => v
  | none => dflt a

/-- Store `v` at `a`: the old cell goes, and a new one is listed only where it differs from `dflt`. -/
def Memory.write (dflt : Nat → Byte) (m : Memory) (a : Nat) (v : Byte) : Memory :=
  if v = dflt a then List.filter (fun cell => cell.1 != a) m
  else Memory.insert (List.filter (fun cell => cell.1 != a) m) a v

/-- Addresses rise strictly from `lo` on. -/
def Memory.risesFrom : Nat → Memory → Bool
  | _, [] => true
  | lo, (k, _) :: m => decide (lo ≤ k) && Memory.risesFrom (k + 1) m

/-- The canonical form: addresses strictly rising and below `size`, and no cell equal to what its address reads as unlisted. -/
def Memory.wf (dflt : Nat → Byte) (size : Nat) (m : Memory) : Bool :=
  Memory.risesFrom 0 m && List.all m (fun cell => decide (cell.1 < size) && (cell.2 != dflt cell.1))

/-- The canonical memory that holds the bytes of a list from address `a` on and reads as unlisted elsewhere. -/
def Memory.ofBytes (dflt : Nat → Byte) : Nat → List Byte → Memory
  | _, [] => []
  | a, v :: vs => if v = dflt a then Memory.ofBytes dflt (a + 1) vs else (a, v) :: Memory.ofBytes dflt (a + 1) vs

/-- The I/O bytes that reset sets without a boot ROM (R76; FF04–FF4B in the order of R54). -/
def ioResetBytes : List (Nat × Byte) :=
  [(0xFF05, 0x00), (0xFF06, 0x00), (0xFF07, 0x00),
   (0xFF10, 0x80), (0xFF11, 0xBF), (0xFF12, 0xF3), (0xFF14, 0xBF), (0xFF16, 0x3F), (0xFF17, 0x00), (0xFF19, 0xBF),
   (0xFF1A, 0x7F)] ++
  [(0xFF1B, 0xFF), (0xFF1C, 0x9F), (0xFF1E, 0xBF), (0xFF20, 0xFF), (0xFF21, 0x00), (0xFF22, 0x00), (0xFF23, 0xBF),
   (0xFF24, 0x77), (0xFF25, 0xF3), (0xFF26, 0xF1)] ++
  [(0xFF40, 0x91), (0xFF42, 0x00), (0xFF43, 0x00), (0xFF45, 0x00), (0xFF47, 0xFC), (0xFF48, 0xFF), (0xFF49, 0xFF),
   (0xFF4A, 0x00), (0xFF4B, 0x00), (0xFFFF, 0x00)]

/-- What a byte of `mem` reads as when nothing has written it: 0x00 below 0x8000 (the ROM image's own bytes are listed there,
R45, R602), the I/O table of R76 when there is no boot ROM, and `INIT_MEM` elsewhere (R76, R77, D4; log 6). -/
def memDefault (c : Config) (a : Nat) : Byte :=
  if a < 0x8000 then 0x00
  else match c.bootRom with
    | some _ => c.initMem
    | none =>
      match ioResetBytes.lookup a with
      | some v => v
      | none => c.initMem

/-- What a byte of `rom` or `ram` reads as when nothing was loaded there: 0x00 (R45, R46, D7). -/
def zeroDefault (_ : Nat) : Byte := 0x00

/-- The byte `mem[a]` (R44). -/
def State.memAt (s : State) (a : Nat) : Byte := Memory.read (memDefault s.cfg) s.mem a

/-- `mem[a] <- v`: the raw array write, without the bus's special cases. -/
def State.pokeMem (s : State) (a : Nat) (v : Byte) : State :=
  { s with mem := Memory.write (memDefault s.cfg) s.mem a v }

/-- The byte `rom[a]` (R45). -/
def State.romAt (s : State) (a : Nat) : Byte := Memory.read zeroDefault s.rom a

/-- The byte `ram[a]` (R46). -/
def State.ramAt (s : State) (a : Nat) : Byte := Memory.read zeroDefault s.ram a

/-- `ram[a] <- v`. -/
def State.pokeRam (s : State) (a : Nat) (v : Byte) : State :=
  { s with ram := Memory.write zeroDefault s.ram a v }

end Sys2Proof.Machine
end

