-- ==== Sys2Proof/Machine/Ops.lean ====
section
/-! DEFINITION. The named operations over memory and registers: register pairs, the bus (20_memory.md R90 to R123), the
stack, the cycle delta, interrupt requests, taking an interrupt and returning from one, and the fault record. -/

namespace Sys2Proof.Machine

/-- What a meaning answers. -/
abbrev Result := Host.Outcome State Fault Refusal

/-! ### Register pairs (10_state.md R31) -/

def State.bc (s : State) : Word := mkWord s.b s.c
def State.de (s : State) : Word := mkWord s.d s.e
def State.hl (s : State) : Word := mkWord s.h s.l

/-- F as it reads: bits 3:0 always read as 0 (R35; log 13). -/
def State.fReg (s : State) : Byte := s.f &&& 0xF0

def State.af (s : State) : Word := mkWord s.a s.fReg

def State.setBC (s : State) (v : Word) : State := { s with b := hiByte v, c := loByte v }
def State.setDE (s : State) (v : Word) : State := { s with d := hiByte v, e := loByte v }
def State.setHL (s : State) (v : Word) : State := { s with h := hiByte v, l := loByte v }

/-- Every write of F keeps bits 3:0 at 0 (R31, R35, D27). -/
def State.setAF (s : State) (v : Word) : State := { s with a := hiByte v, f := loByte v &&& 0xF0 }

/-! ### Cycle costs (70_reset_and_hazards.md R620) -/

/-- The cost of `k`: `dflt`, the "Cycles" line of the rule, unless `CYCLE_TABLE` sets another (log 5). -/
def cycleCost (c : Config) (k : CostKey) (dflt : Nat) : Nat :=
  match c.cycleTable.lookup k with
  | some n => n
  | none => dflt

/-- `cycles += n` (R8). -/
def State.addCycles (s : State) (n : Nat) : State := { s with stepCycles := s.stepCycles + n }

/-- Charge an instruction's cost to the step's cycle delta. -/
def State.spend (s : State) (k : CostKey) (dflt : Nat) : State := s.addCycles (cycleCost s.cfg k dflt)

/-! ### Reads (R90 to R97) -/

/-- `RomOffset(addr)` for an address in 4000–7FFF (R92, R115). Only cartType 0x00 is a plain ROM; the load refuses types above
0x03 (R601; log 12). -/
def State.romOffset (s : State) (a : Nat) : Nat :=
  if s.cartType = 0x00 then a else s.romBank.toNat * 0x4000 + (a - 0x4000)

/-- `RamOffset(addr)` for an address in A000–BFFF (R93). -/
def State.ramOffset (s : State) (a : Nat) : Nat := s.ramBank.toNat * 0x2000 + (a - 0xA000)

/-- `JoypadRead()` (R94): bits 3:0 are active-low, bits 5:4 are the stored select bits. -/
def State.joypadRead (s : State) : Byte :=
  let p := s.memAt 0xFF00
  let dirs := if getBit p 4 = false then 0x0F &&& ~~~(s.buttons &&& 0x0F) else 0x0F
  let low := if getBit p 5 = false then dirs &&& ~~~((s.buttons >>> 4) &&& 0x0F) else dirs
  0xC0 ||| (p &&& 0x30) ||| low

/-- `ReadByte(addr)`: the first matching row (R90). -/
def State.readByte (s : State) (addr : Word) : Byte :=
  let a := addr.toNat
  if 0x4000 ≤ a ∧ a ≤ 0x7FFF then s.romAt (s.romOffset a)
  else if 0xA000 ≤ a ∧ a ≤ 0xBFFF then (if s.ramEnabled then s.ramAt (s.ramOffset a) else 0xFF)
  else if a = 0xFF00 then s.joypadRead
  else if a = 0xFF0F then s.memAt 0xFF0F ||| 0xE0
  else if 0xFF10 ≤ a ∧ a ≤ 0xFF3F then 0xFF
  else s.memAt a

/-- `ReadWord(addr)`: low byte at `addr`, high byte at `addr + 1` modulo 2^16 (R82). -/
def State.readWord (s : State) (addr : Word) : Word := mkWord (s.readByte (addr + 1)) (s.readByte addr)

/-! ### The MBC1 bank controller (R101, R120 to R122) -/

/-- The four unreachable bank numbers go to the next one (R120, D11). -/
def remapBank (r : BitVec 7) : BitVec 7 :=
  if r = 0x00 ∨ r = 0x20 ∨ r = 0x40 ∨ r = 0x60 then r + 1 else r

/-- A write to 0000–1FFF (R101). -/
def State.ramEnableWrite (s : State) (v : Byte) : State := { s with ramEnabled := decide (v &&& 0x0F = 0x0A) }

/-- `SelectRomBank(v)` (R120): low 5 bits from `v`, bits 6:5 kept, then the remap. -/
def State.selectRomBank (s : State) (v : Byte) : State :=
  { s with romBank := remapBank ((s.romBank &&& 0x60) ||| (v &&& 0x1F).setWidth 7) }

/-- The bits 6:5 that `SelectUpperBits` merges, by `MBC1_UPPER_BITS_SOURCE` (R121, D10). -/
def upperBankBits (src : UpperBitsSource) (v : Byte) : BitVec 7 :=
  match src with
  | .dataBits5to6 => (v &&& 0x60).setWidth 7
  | .dataBits1to0 => (v &&& 0x03).setWidth 7 <<< 5

/-- `SelectUpperBits(v)` (R121). -/
def State.selectUpperBits (s : State) (v : Byte) : State :=
  if s.mbcMode then { s with ramBank := (v &&& 0x03).setWidth 2 }
  else { s with romBank := remapBank ((s.romBank &&& 0x1F) ||| upperBankBits s.cfg.upperBits v) }

/-- `SetMode(v)` (R122). -/
def State.setMbcMode (s : State) (v : Byte) : State := { s with mbcMode := getBit v 0 }

/-! ### Writes (R100 to R115) -/

/-- `OamDma(v)`: 160 bytes, ascending, each read by ReadByte and stored straight into `mem` (R111). -/
def State.oamDma (s : State) (v : Byte) : State :=
  (List.range 160).foldl
    (fun t i => t.pokeMem (0xFE00 + i) (t.readByte (BitVec.ofNat 16 (v.toNat * 256 + i)))) s

/-- `BootUnmap()`: the cartridge's first 256 bytes come back (R112). -/
def State.bootUnmap (s : State) : State :=
  { (List.range 256).foldl (fun t i => t.pokeMem i (t.romAt i)) s with bootMapped := false }

/-- `SerialHook(v)`: the trigger value emits SB to the host (R113). -/
def State.serialHook (s : State) (v : Byte) : State :=
  if v = s.cfg.serialHookValue then { s with outputs := .serialOut (s.memAt 0xFF01) :: s.outputs } else s

/-- `WriteByte(addr, v)`: the first matching row (R100). -/
def State.writeByte (s : State) (addr : Word) (v : Byte) : State :=
  let a := addr.toNat
  if a ≤ 0x7FFF ∧ s.cartType = 0x00 then s
  else if a ≤ 0x1FFF then s.ramEnableWrite v
  else if a ≤ 0x3FFF then s.selectRomBank v
  else if a ≤ 0x5FFF then s.selectUpperBits v
  else if a ≤ 0x7FFF then s.setMbcMode v
  else if 0xA000 ≤ a ∧ a ≤ 0xBFFF then (if s.ramEnabled then s.pokeRam (s.ramOffset a) v else s)
  else if 0xC000 ≤ a ∧ a ≤ 0xDDFF then (s.pokeMem a v).pokeMem (a + 0x2000) v
  else if 0xE000 ≤ a ∧ a ≤ 0xFDFF then (s.pokeMem a v).pokeMem (a - 0x2000) v
  else if 0xFEA0 ≤ a ∧ a ≤ 0xFEFF then s
  else if a = 0xFF02 then (s.pokeMem a v).serialHook v
  else if a = 0xFF04 then s.pokeMem 0xFF04 0x00
  else if a = 0xFF44 then s
  else if a = 0xFF46 then (s.pokeMem a v).oamDma v
  else if 0xFF4C ≤ a ∧ a ≤ 0xFF7F then (if v = 0x01 then (s.pokeMem a v).bootUnmap else s.pokeMem a v)
  else s.pokeMem a v

/-- `WriteWord(addr, v)`: low byte first (R83). -/
def State.writeWord (s : State) (addr : Word) (v : Word) : State :=
  (s.writeByte addr (loByte v)).writeByte (addr + 1) (hiByte v)

/-! ### The stack (R84, R85) -/

/-- `Push(v)`: SP goes down by 2, then the high byte to SP + 1, then the low byte to SP (R84). -/
def State.push (s : State) (v : Word) : State :=
  let sp' := s.sp - 2
  (({ s with sp := sp' }).writeByte (sp' + 1) (hiByte v)).writeByte sp' (loByte v)

/-- The value `Pop()` returns: low byte at SP, high byte at SP + 1 (R85). -/
def State.popValue (s : State) : Word := s.readWord s.sp

/-- `Pop()` moves SP up by 2 (R85). -/
def State.popped (s : State) : State := { s with sp := s.sp + 2 }

/-! ### Interrupts and the fault (60_exceptions.md R505, R511, R514; 47_system.md R408) -/

/-- The bit `1 << k` of IF and IE. -/
def irqMask (k : Nat) : Byte := 1#8 <<< k

/-- `RequestInterrupt(k)` (R511). -/
def State.requestInterrupt (s : State) (k : Nat) : State :=
  s.pokeMem 0xFF0F (s.memAt 0xFF0F ||| irqMask k)

/-- The vector of source `k`: 0x0040 + 8k (R515). -/
def vectorOf (k : Nat) : Word := BitVec.ofNat 16 (0x0040 + 8 * k)

/-- `Dispatch(k, wasHalted)`, the trap entry (R514): clear the pending bit, push PC, go to the vector, clear IME and
`imePending`, and cost 20 cycles, or 24 out of halt. -/
def State.dispatchInterrupt (s : State) (k : Nat) (wasHalted : Bool) : State :=
  let s1 := (s.pokeMem 0xFF0F (s.memAt 0xFF0F &&& ~~~(irqMask k))).push s.pc
  ({ s1 with pc := vectorOf k, ime := false, imePending := false }).addCycles (if wasHalted then 24 else 20)

/-- The return from an interrupt: `PC <- Pop(); IME <- 1` (R380). `imePending` is not changed. -/
def State.returnFromInterrupt (s : State) : State := { s.popped with pc := s.popValue, ime := true }

/-- `Fault(UnimplementedOpcode, {opcode, pc})` with PC past the byte: the record names the byte and its address, and nothing
else changes (R408, R42). -/
def State.raiseUnimplemented (s : State) (opcode : Byte) : State := { s with fault := some ⟨opcode, s.pc - 1⟩ }

end Sys2Proof.Machine
end

