-- ==== Sys2Proof/Machine/Operands.lean ====
section
/-! DEFINITION. The operand forms (30_encoding.md R163 to R166): registers, pairs, memory at HL, conditions. -/

namespace Sys2Proof.Machine

/-- The 3-bit register field less the value 6 (R163). -/
inductive Reg8
  | b | c | d | e | h | l | a
deriving DecidableEq, Repr

/-- The pair field `rp` (R164). -/
inductive Pair
  | bc | de | hl | sp
deriving DecidableEq, Repr

/-- The pair field `rp2` of PUSH and POP (R164). -/
inductive StackPair
  | bc | de | hl | af
deriving DecidableEq, Repr

/-- The condition field cc (R165). -/
inductive Cond
  | nz | z | nc | c
deriving DecidableEq, Repr

/-- `x[r]` (R8). -/
def State.reg (s : State) : Reg8 → Byte
  | .b => s.b
  | .c => s.c
  | .d => s.d
  | .e => s.e
  | .h => s.h
  | .l => s.l
  | .a => s.a

/-- `x[r] <- v` (R8). -/
def State.setReg (s : State) (r : Reg8) (v : Byte) : State :=
  match r with
  | .b => { s with b := v }
  | .c => { s with c := v }
  | .d => { s with d := v }
  | .e => { s with e := v }
  | .h => { s with h := v }
  | .l => { s with l := v }
  | .a => { s with a := v }

/-- `x[rr]` for rr in `rp` (R31, R32). -/
def State.pair (s : State) : Pair → Word
  | .bc => s.bc
  | .de => s.de
  | .hl => s.hl
  | .sp => s.sp

/-- `x[rr] <- v` for rr in `rp`. -/
def State.setPair (s : State) (p : Pair) (v : Word) : State :=
  match p with
  | .bc => s.setBC v
  | .de => s.setDE v
  | .hl => s.setHL v
  | .sp => { s with sp := v }

/-- `x[qq]` for qq in `rp2`. -/
def State.stackPair (s : State) : StackPair → Word
  | .bc => s.bc
  | .de => s.de
  | .hl => s.hl
  | .af => s.af

/-- `x[qq] <- v` for qq in `rp2`; AF keeps F's low nibble at 0 (R236). -/
def State.setStackPair (s : State) (p : StackPair) (v : Word) : State :=
  match p with
  | .bc => s.setBC v
  | .de => s.setDE v
  | .hl => s.setHL v
  | .af => s.setAF v

/-- The operand (HL) as a source: `MemRead(HL, 1)`. -/
def State.readHL (s : State) : Byte := s.readByte s.hl

/-- The operand (HL) as a destination: `MemWrite(HL, 1, v)`. -/
def State.writeHL (s : State) (v : Byte) : State := s.writeByte s.hl v

end Sys2Proof.Machine
end

