-- ==== Sys2Proof/Machine/Flags.lean ====
section
/-! DEFINITION. The flags (10_state.md R34, R35) and every flag computation: R9, Add8 and Sub8 of 42_alu8.md R250, INC and DEC
(R275, R277), DAA (R279), the 16-bit adds (43_alu16.md R301, R304), rotates and shifts (44_rotate_shift.md). -/

namespace Sys2Proof.Machine

/-- The byte with Z N H C in bits 7 to 4 and 0 in bits 3:0 (R34, R35). -/
def packFlags (z n h c : Bool) : Byte :=
  (if z then 0x80 else 0x00) ||| (if n then 0x40 else 0x00) ||| (if h then 0x20 else 0x00) ||| (if c then 0x10 else 0x00)

def State.flagZ (s : State) : Bool := getBit s.f 7
def State.flagN (s : State) : Bool := getBit s.f 6
def State.flagH (s : State) : Bool := getBit s.f 5
def State.flagC (s : State) : Bool := getBit s.f 4

/-- Write all four flags; bits 3:0 become 0 (R35). -/
def State.setFlags (s : State) (z n h c : Bool) : State := { s with f := packFlags z n h c }

/-- `Cond(cc)` on the flags before the instruction (46_control.md R370). -/
def State.cond (s : State) : Cond → Bool
  | .nz => !s.flagZ
  | .z => s.flagZ
  | .nc => !s.flagC
  | .c => s.flagC

/-! ### The helpers of R9 -/

def halfCarryAdd8 (a b : Byte) (c : Bool) : Bool := decide (a.toNat % 16 + b.toNat % 16 + c.toNat > 0xF)
def carryAdd8 (a b : Byte) (c : Bool) : Bool := decide (a.toNat + b.toNat + c.toNat > 0xFF)
def halfBorrow8 (a b : Byte) (c : Bool) : Bool := decide (a.toNat % 16 < b.toNat % 16 + c.toNat)
def borrow8 (a b : Byte) (c : Bool) : Bool := decide (a.toNat < b.toNat + c.toNat)
def halfCarryAdd16 (a b : Word) : Bool := decide (a.toNat % 0x1000 + b.toNat % 0x1000 > 0xFFF)
def carryAdd16 (a b : Word) : Bool := decide (a.toNat + b.toNat > 0xFFFF)

/-- The carry-in as a byte. -/
def carryByte (c : Bool) : Byte := if c then 1 else 0

/-! ### 8-bit arithmetic and logic on A (R250) -/

/-- `A <- Add8(A, v, c)`. -/
def State.addA (s : State) (v : Byte) (c : Bool) : State :=
  let res := s.a + v + carryByte c
  ({ s with a := res }).setFlags (decide (res = 0)) false (halfCarryAdd8 s.a v c) (carryAdd8 s.a v c)

/-- The flags of `Sub8(A, v, c)`, with the result discarded (R272). -/
def State.compareA (s : State) (v : Byte) (c : Bool) : State :=
  s.setFlags (decide (s.a - v - carryByte c = 0)) true (halfBorrow8 s.a v c) (borrow8 s.a v c)

/-- `A <- Sub8(A, v, c)`. -/
def State.subA (s : State) (v : Byte) (c : Bool) : State :=
  { s.compareA v c with a := s.a - v - carryByte c }

/-- AND (R263): H set, N and C cleared. -/
def State.andA (s : State) (v : Byte) : State :=
  ({ s with a := s.a &&& v }).setFlags (decide (s.a &&& v = 0)) false true false

/-- XOR (R266): N, H and C cleared. -/
def State.xorA (s : State) (v : Byte) : State :=
  ({ s with a := s.a ^^^ v }).setFlags (decide (s.a ^^^ v = 0)) false false false

/-- OR (R269): N, H and C cleared. -/
def State.orA (s : State) (v : Byte) : State :=
  ({ s with a := s.a ||| v }).setFlags (decide (s.a ||| v = 0)) false false false

/-- The flags of an 8-bit increment of `old`; C is left (R275). -/
def State.incFlags (s : State) (old : Byte) : State :=
  s.setFlags (decide (old + 1 = 0)) false (decide (old.toNat % 16 = 0xF)) s.flagC

/-- The flags of an 8-bit decrement of `old`; C is left (R277). -/
def State.decFlags (s : State) (old : Byte) : State :=
  s.setFlags (decide (old - 1 = 0)) true (decide (old.toNat % 16 = 0x0)) s.flagC

/-- INC r (R275). -/
def State.incReg (s : State) (r : Reg8) : State := (s.incFlags (s.reg r)).setReg r (s.reg r + 1)

/-- DEC r (R277). -/
def State.decReg (s : State) (r : Reg8) : State := (s.decFlags (s.reg r)).setReg r (s.reg r - 1)

/-- INC (HL): one read, one write (R276). -/
def State.incHLMem (s : State) : State := (s.incFlags s.readHL).writeHL (s.readHL + 1)

/-- DEC (HL) (R278). -/
def State.decHLMem (s : State) : State := (s.decFlags s.readHL).writeHL (s.readHL - 1)

/-- Whether DAA's add path adjusts by 0x60 (R279). -/
def daaAdjustsHigh (a : Byte) (c : Bool) : Bool := c || decide (a.toNat > 0x99)

/-- Whether DAA's add path adjusts by 0x06 (R279). -/
def daaAdjustsLow (a : Byte) (h : Bool) : Bool := h || decide (a.toNat % 16 > 0x09)

/-- DAA (R279): N unchanged, H cleared, C set when the add path adjusts by 0x60 and otherwise unchanged. -/
def State.daa (s : State) : State :=
  let high := if s.flagN then s.flagC else daaAdjustsHigh s.a s.flagC
  let low := if s.flagN then s.flagH else daaAdjustsLow s.a s.flagH
  let adj : Byte := (if high then 0x60 else 0x00) ||| (if low then 0x06 else 0x00)
  let res := if s.flagN then s.a - adj else s.a + adj
  ({ s with a := res }).setFlags (decide (res = 0)) s.flagN false high

/-- CPL (R280). -/
def State.cpl (s : State) : State := ({ s with a := ~~~s.a }).setFlags s.flagZ true true s.flagC

/-- SCF (R281). -/
def State.scf (s : State) : State := s.setFlags s.flagZ false false true

/-- CCF (R282). -/
def State.ccf (s : State) : State := s.setFlags s.flagZ false false (!s.flagC)

/-! ### 16-bit arithmetic (43_alu16.md) -/

/-- ADD HL,rr (R301): Z unchanged. -/
def State.addHL (s : State) (v : Word) : State :=
  (s.setHL (s.hl + v)).setFlags s.flagZ false (halfCarryAdd16 s.hl v) (carryAdd16 s.hl v)

/-- Carry from bit 3 of the unsigned add of the raw byte to SP's low byte (R234, R304). -/
def halfCarrySp (sp : Word) (e : Byte) : Bool := decide (sp.toNat % 16 + e.toNat % 16 > 0xF)

/-- Carry from bit 7 of the same add (R234, R304). -/
def carrySp (sp : Word) (e : Byte) : Bool := decide (sp.toNat % 256 + e.toNat > 0xFF)

/-- ADD SP,e (R304). -/
def State.addSP (s : State) (e : Byte) : State :=
  ({ s with sp := s.sp + sext16 e }).setFlags false false (halfCarrySp s.sp e) (carrySp s.sp e)

/-- LD HL,SP+e (R234). -/
def State.ldHLSP (s : State) (e : Byte) : State :=
  (s.setHL (s.sp + sext16 e)).setFlags false false (halfCarrySp s.sp e) (carrySp s.sp e)

/-! ### Rotates, shifts and SWAP (44_rotate_shift.md) -/

/-- The eight operations in the order of the CB table (R160, R320). -/
inductive ShiftOp
  | rlc | rrc | rl | rr | sla | sra | swap | srl
deriving DecidableEq, Repr

/-- The result byte, with the carry flag as the carry-in (R325 to R340). -/
def shiftResult (op : ShiftOp) (v : Byte) (c : Bool) : Byte :=
  match op with
  | .rlc => (v <<< 1) ||| (v >>> 7)
  | .rrc => (v >>> 1) ||| (v <<< 7)
  | .rl => (v <<< 1) ||| carryByte c
  | .rr => (v >>> 1) ||| (carryByte c <<< 7)
  | .sla => v <<< 1
  | .sra => (v >>> 1) ||| (v &&& 0x80)
  | .swap => (v <<< 4) ||| (v >>> 4)
  | .srl => v >>> 1

/-- The bit shifted out; SWAP shifts none out (R325 to R340). -/
def shiftOut (op : ShiftOp) (v : Byte) : Bool :=
  match op with
  | .rlc | .rl | .sla => getBit v 7
  | .rrc | .rr | .sra | .srl => getBit v 0
  | .swap => false

/-- `SetShiftFlags(res, out)` for the operation on `v` (R320). -/
def State.shiftFlags (s : State) (op : ShiftOp) (v : Byte) : State :=
  s.setFlags (decide (shiftResult op v s.flagC = 0)) false false (shiftOut op v)

/-- A CB rotate, shift or SWAP on a register. -/
def State.shiftReg (s : State) (op : ShiftOp) (r : Reg8) : State :=
  (s.shiftFlags op (s.reg r)).setReg r (shiftResult op (s.reg r) s.flagC)

/-- A CB rotate, shift or SWAP on the byte at HL: one read, one write. -/
def State.shiftHLMem (s : State) (op : ShiftOp) : State :=
  (s.shiftFlags op s.readHL).writeHL (shiftResult op s.readHL s.flagC)

/-- The Z that RLCA, RRCA, RLA and RRA write, by `ACC_ROTATE_Z` (R320, D25). -/
def State.accRotateZ (s : State) : Bool :=
  match s.cfg.accRotateZ with
  | .clear => false
  | .preserve => s.flagZ

/-- An accumulator rotate of the base table (R321 to R324). -/
def State.rotateA (s : State) (op : ShiftOp) : State :=
  ({ s with a := shiftResult op s.a s.flagC }).setFlags s.accRotateZ false false (shiftOut op s.a)

/-! ### Single bits (45_bit.md) -/

/-- BIT b on the value `v`: C unchanged (R351, R352). -/
def State.bitTest (s : State) (b : Nat) (v : Byte) : State := s.setFlags (!getBit v b) false true s.flagC

end Sys2Proof.Machine
end

