-- ==== Sys2Proof/Machine/Alu16.lean ====
section
/-! DEFINITION. 16-bit arithmetic (43_alu16.md). PC already points past the encoding (00_scope.md R11). -/

namespace Sys2Proof.Machine

/-- INC BC (R302). -/
def exec_inc_BC (s : State) : Result :=
  .next ((s.setPair .bc (s.pair .bc + 1)).spend (.base 0x03) 8)

/-- ADD HL,BC (R301). -/
def exec_add_HL_BC (s : State) : Result :=
  .next ((s.addHL (s.pair .bc)).spend (.base 0x09) 8)

/-- DEC BC (R303). -/
def exec_dec_BC (s : State) : Result :=
  .next ((s.setPair .bc (s.pair .bc - 1)).spend (.base 0x0B) 8)

/-- INC DE (R302). -/
def exec_inc_DE (s : State) : Result :=
  .next ((s.setPair .de (s.pair .de + 1)).spend (.base 0x13) 8)

/-- ADD HL,DE (R301). -/
def exec_add_HL_DE (s : State) : Result :=
  .next ((s.addHL (s.pair .de)).spend (.base 0x19) 8)

/-- DEC DE (R303). -/
def exec_dec_DE (s : State) : Result :=
  .next ((s.setPair .de (s.pair .de - 1)).spend (.base 0x1B) 8)

/-- INC HL (R302). -/
def exec_inc_HL (s : State) : Result :=
  .next ((s.setPair .hl (s.pair .hl + 1)).spend (.base 0x23) 8)

/-- ADD HL,HL (R301). -/
def exec_add_HL_HL (s : State) : Result :=
  .next ((s.addHL (s.pair .hl)).spend (.base 0x29) 8)

/-- DEC HL (R303). -/
def exec_dec_HL (s : State) : Result :=
  .next ((s.setPair .hl (s.pair .hl - 1)).spend (.base 0x2B) 8)

/-- INC SP (R302). -/
def exec_inc_SP (s : State) : Result :=
  .next ((s.setPair .sp (s.pair .sp + 1)).spend (.base 0x33) 8)

/-- ADD HL,SP (R301). -/
def exec_add_HL_SP (s : State) : Result :=
  .next ((s.addHL (s.pair .sp)).spend (.base 0x39) 8)

/-- DEC SP (R303). -/
def exec_dec_SP (s : State) : Result :=
  .next ((s.setPair .sp (s.pair .sp - 1)).spend (.base 0x3B) 8)

/-- ADD SP,e (R304). -/
def exec_add_SP_e (e : Byte) (s : State) : Result :=
  .next ((s.addSP e).spend (.base 0xE8) 16)

end Sys2Proof.Machine
end

