-- ==== Sys2Proof/Machine/Alu8.lean ====
section
/-! DEFINITION. 8-bit arithmetic and logic (42_alu8.md). PC already points past the encoding (00_scope.md R11). -/

namespace Sys2Proof.Machine

/-- INC B (R275). -/
def exec_inc_B (s : State) : Result :=
  .next ((s.incReg .b).spend (.base 0x04) 4)

/-- DEC B (R277). -/
def exec_dec_B (s : State) : Result :=
  .next ((s.decReg .b).spend (.base 0x05) 4)

/-- INC C (R275). -/
def exec_inc_C (s : State) : Result :=
  .next ((s.incReg .c).spend (.base 0x0C) 4)

/-- DEC C (R277). -/
def exec_dec_C (s : State) : Result :=
  .next ((s.decReg .c).spend (.base 0x0D) 4)

/-- INC D (R275). -/
def exec_inc_D (s : State) : Result :=
  .next ((s.incReg .d).spend (.base 0x14) 4)

/-- DEC D (R277). -/
def exec_dec_D (s : State) : Result :=
  .next ((s.decReg .d).spend (.base 0x15) 4)

/-- INC E (R275). -/
def exec_inc_E (s : State) : Result :=
  .next ((s.incReg .e).spend (.base 0x1C) 4)

/-- DEC E (R277). -/
def exec_dec_E (s : State) : Result :=
  .next ((s.decReg .e).spend (.base 0x1D) 4)

/-- INC H (R275). -/
def exec_inc_H (s : State) : Result :=
  .next ((s.incReg .h).spend (.base 0x24) 4)

/-- DEC H (R277). -/
def exec_dec_H (s : State) : Result :=
  .next ((s.decReg .h).spend (.base 0x25) 4)

/-- DAA (R279). -/
def exec_daa (s : State) : Result :=
  .next (s.daa.spend (.base 0x27) 4)

/-- INC L (R275). -/
def exec_inc_L (s : State) : Result :=
  .next ((s.incReg .l).spend (.base 0x2C) 4)

/-- DEC L (R277). -/
def exec_dec_L (s : State) : Result :=
  .next ((s.decReg .l).spend (.base 0x2D) 4)

/-- CPL (R280). -/
def exec_cpl (s : State) : Result :=
  .next (s.cpl.spend (.base 0x2F) 4)

/-- INC (HL) (R276). -/
def exec_inc_atHL (s : State) : Result :=
  .next (s.incHLMem.spend (.base 0x34) 12)

/-- DEC (HL) (R278). -/
def exec_dec_atHL (s : State) : Result :=
  .next (s.decHLMem.spend (.base 0x35) 12)

/-- SCF (R281). -/
def exec_scf (s : State) : Result :=
  .next (s.scf.spend (.base 0x37) 4)

/-- INC A (R275). -/
def exec_inc_A (s : State) : Result :=
  .next ((s.incReg .a).spend (.base 0x3C) 4)

/-- DEC A (R277). -/
def exec_dec_A (s : State) : Result :=
  .next ((s.decReg .a).spend (.base 0x3D) 4)

/-- CCF (R282). -/
def exec_ccf (s : State) : Result :=
  .next (s.ccf.spend (.base 0x3F) 4)

/-- ADD A,B (R251). -/
def exec_add_A_B (s : State) : Result :=
  .next ((s.addA (s.reg .b) false).spend (.base 0x80) 4)

/-- ADD A,C (R251). -/
def exec_add_A_C (s : State) : Result :=
  .next ((s.addA (s.reg .c) false).spend (.base 0x81) 4)

/-- ADD A,D (R251). -/
def exec_add_A_D (s : State) : Result :=
  .next ((s.addA (s.reg .d) false).spend (.base 0x82) 4)

/-- ADD A,E (R251). -/
def exec_add_A_E (s : State) : Result :=
  .next ((s.addA (s.reg .e) false).spend (.base 0x83) 4)

/-- ADD A,H (R251). -/
def exec_add_A_H (s : State) : Result :=
  .next ((s.addA (s.reg .h) false).spend (.base 0x84) 4)

/-- ADD A,L (R251). -/
def exec_add_A_L (s : State) : Result :=
  .next ((s.addA (s.reg .l) false).spend (.base 0x85) 4)

/-- ADD A,(HL) (R252). -/
def exec_add_A_atHL (s : State) : Result :=
  .next ((s.addA s.readHL false).spend (.base 0x86) 8)

/-- ADD A,A (R251). -/
def exec_add_A_A (s : State) : Result :=
  .next ((s.addA (s.reg .a) false).spend (.base 0x87) 4)

/-- ADC A,B (R254). -/
def exec_adc_A_B (s : State) : Result :=
  .next ((s.addA (s.reg .b) s.flagC).spend (.base 0x88) 4)

/-- ADC A,C (R254). -/
def exec_adc_A_C (s : State) : Result :=
  .next ((s.addA (s.reg .c) s.flagC).spend (.base 0x89) 4)

/-- ADC A,D (R254). -/
def exec_adc_A_D (s : State) : Result :=
  .next ((s.addA (s.reg .d) s.flagC).spend (.base 0x8A) 4)

/-- ADC A,E (R254). -/
def exec_adc_A_E (s : State) : Result :=
  .next ((s.addA (s.reg .e) s.flagC).spend (.base 0x8B) 4)

/-- ADC A,H (R254). -/
def exec_adc_A_H (s : State) : Result :=
  .next ((s.addA (s.reg .h) s.flagC).spend (.base 0x8C) 4)

/-- ADC A,L (R254). -/
def exec_adc_A_L (s : State) : Result :=
  .next ((s.addA (s.reg .l) s.flagC).spend (.base 0x8D) 4)

/-- ADC A,(HL) (R255). -/
def exec_adc_A_atHL (s : State) : Result :=
  .next ((s.addA s.readHL s.flagC).spend (.base 0x8E) 8)

/-- ADC A,A (R254). -/
def exec_adc_A_A (s : State) : Result :=
  .next ((s.addA (s.reg .a) s.flagC).spend (.base 0x8F) 4)

/-- SUB B (R257). -/
def exec_sub_B (s : State) : Result :=
  .next ((s.subA (s.reg .b) false).spend (.base 0x90) 4)

/-- SUB C (R257). -/
def exec_sub_C (s : State) : Result :=
  .next ((s.subA (s.reg .c) false).spend (.base 0x91) 4)

/-- SUB D (R257). -/
def exec_sub_D (s : State) : Result :=
  .next ((s.subA (s.reg .d) false).spend (.base 0x92) 4)

/-- SUB E (R257). -/
def exec_sub_E (s : State) : Result :=
  .next ((s.subA (s.reg .e) false).spend (.base 0x93) 4)

/-- SUB H (R257). -/
def exec_sub_H (s : State) : Result :=
  .next ((s.subA (s.reg .h) false).spend (.base 0x94) 4)

/-- SUB L (R257). -/
def exec_sub_L (s : State) : Result :=
  .next ((s.subA (s.reg .l) false).spend (.base 0x95) 4)

/-- SUB (HL) (R258). -/
def exec_sub_atHL (s : State) : Result :=
  .next ((s.subA s.readHL false).spend (.base 0x96) 8)

/-- SUB A (R257). -/
def exec_sub_A (s : State) : Result :=
  .next ((s.subA (s.reg .a) false).spend (.base 0x97) 4)

/-- SBC A,B (R260). -/
def exec_sbc_A_B (s : State) : Result :=
  .next ((s.subA (s.reg .b) s.flagC).spend (.base 0x98) 4)

/-- SBC A,C (R260). -/
def exec_sbc_A_C (s : State) : Result :=
  .next ((s.subA (s.reg .c) s.flagC).spend (.base 0x99) 4)

/-- SBC A,D (R260). -/
def exec_sbc_A_D (s : State) : Result :=
  .next ((s.subA (s.reg .d) s.flagC).spend (.base 0x9A) 4)

/-- SBC A,E (R260). -/
def exec_sbc_A_E (s : State) : Result :=
  .next ((s.subA (s.reg .e) s.flagC).spend (.base 0x9B) 4)

/-- SBC A,H (R260). -/
def exec_sbc_A_H (s : State) : Result :=
  .next ((s.subA (s.reg .h) s.flagC).spend (.base 0x9C) 4)

/-- SBC A,L (R260). -/
def exec_sbc_A_L (s : State) : Result :=
  .next ((s.subA (s.reg .l) s.flagC).spend (.base 0x9D) 4)

/-- SBC A,(HL) (R261). -/
def exec_sbc_A_atHL (s : State) : Result :=
  .next ((s.subA s.readHL s.flagC).spend (.base 0x9E) 8)

/-- SBC A,A (R260). -/
def exec_sbc_A_A (s : State) : Result :=
  .next ((s.subA (s.reg .a) s.flagC).spend (.base 0x9F) 4)

/-- AND B (R263). -/
def exec_and_B (s : State) : Result :=
  .next ((s.andA (s.reg .b)).spend (.base 0xA0) 4)

/-- AND C (R263). -/
def exec_and_C (s : State) : Result :=
  .next ((s.andA (s.reg .c)).spend (.base 0xA1) 4)

/-- AND D (R263). -/
def exec_and_D (s : State) : Result :=
  .next ((s.andA (s.reg .d)).spend (.base 0xA2) 4)

/-- AND E (R263). -/
def exec_and_E (s : State) : Result :=
  .next ((s.andA (s.reg .e)).spend (.base 0xA3) 4)

/-- AND H (R263). -/
def exec_and_H (s : State) : Result :=
  .next ((s.andA (s.reg .h)).spend (.base 0xA4) 4)

/-- AND L (R263). -/
def exec_and_L (s : State) : Result :=
  .next ((s.andA (s.reg .l)).spend (.base 0xA5) 4)

/-- AND (HL) (R264). -/
def exec_and_atHL (s : State) : Result :=
  .next ((s.andA s.readHL).spend (.base 0xA6) 8)

/-- AND A (R263). -/
def exec_and_A (s : State) : Result :=
  .next ((s.andA (s.reg .a)).spend (.base 0xA7) 4)

/-- XOR B (R266). -/
def exec_xor_B (s : State) : Result :=
  .next ((s.xorA (s.reg .b)).spend (.base 0xA8) 4)

/-- XOR C (R266). -/
def exec_xor_C (s : State) : Result :=
  .next ((s.xorA (s.reg .c)).spend (.base 0xA9) 4)

/-- XOR D (R266). -/
def exec_xor_D (s : State) : Result :=
  .next ((s.xorA (s.reg .d)).spend (.base 0xAA) 4)

/-- XOR E (R266). -/
def exec_xor_E (s : State) : Result :=
  .next ((s.xorA (s.reg .e)).spend (.base 0xAB) 4)

/-- XOR H (R266). -/
def exec_xor_H (s : State) : Result :=
  .next ((s.xorA (s.reg .h)).spend (.base 0xAC) 4)

/-- XOR L (R266). -/
def exec_xor_L (s : State) : Result :=
  .next ((s.xorA (s.reg .l)).spend (.base 0xAD) 4)

/-- XOR (HL) (R267). -/
def exec_xor_atHL (s : State) : Result :=
  .next ((s.xorA s.readHL).spend (.base 0xAE) 8)

/-- XOR A (R266). -/
def exec_xor_A (s : State) : Result :=
  .next ((s.xorA (s.reg .a)).spend (.base 0xAF) 4)

/-- OR B (R269). -/
def exec_or_B (s : State) : Result :=
  .next ((s.orA (s.reg .b)).spend (.base 0xB0) 4)

/-- OR C (R269). -/
def exec_or_C (s : State) : Result :=
  .next ((s.orA (s.reg .c)).spend (.base 0xB1) 4)

/-- OR D (R269). -/
def exec_or_D (s : State) : Result :=
  .next ((s.orA (s.reg .d)).spend (.base 0xB2) 4)

/-- OR E (R269). -/
def exec_or_E (s : State) : Result :=
  .next ((s.orA (s.reg .e)).spend (.base 0xB3) 4)

/-- OR H (R269). -/
def exec_or_H (s : State) : Result :=
  .next ((s.orA (s.reg .h)).spend (.base 0xB4) 4)

/-- OR L (R269). -/
def exec_or_L (s : State) : Result :=
  .next ((s.orA (s.reg .l)).spend (.base 0xB5) 4)

/-- OR (HL) (R270). -/
def exec_or_atHL (s : State) : Result :=
  .next ((s.orA s.readHL).spend (.base 0xB6) 8)

/-- OR A (R269). -/
def exec_or_A (s : State) : Result :=
  .next ((s.orA (s.reg .a)).spend (.base 0xB7) 4)

/-- CP B (R272). -/
def exec_cp_B (s : State) : Result :=
  .next ((s.compareA (s.reg .b) false).spend (.base 0xB8) 4)

/-- CP C (R272). -/
def exec_cp_C (s : State) : Result :=
  .next ((s.compareA (s.reg .c) false).spend (.base 0xB9) 4)

/-- CP D (R272). -/
def exec_cp_D (s : State) : Result :=
  .next ((s.compareA (s.reg .d) false).spend (.base 0xBA) 4)

/-- CP E (R272). -/
def exec_cp_E (s : State) : Result :=
  .next ((s.compareA (s.reg .e) false).spend (.base 0xBB) 4)

/-- CP H (R272). -/
def exec_cp_H (s : State) : Result :=
  .next ((s.compareA (s.reg .h) false).spend (.base 0xBC) 4)

/-- CP L (R272). -/
def exec_cp_L (s : State) : Result :=
  .next ((s.compareA (s.reg .l) false).spend (.base 0xBD) 4)

/-- CP (HL) (R273). -/
def exec_cp_atHL (s : State) : Result :=
  .next ((s.compareA s.readHL false).spend (.base 0xBE) 8)

/-- CP A (R272). -/
def exec_cp_A (s : State) : Result :=
  .next ((s.compareA (s.reg .a) false).spend (.base 0xBF) 4)

/-- ADD A,n (R253). -/
def exec_add_A_n (n : Byte) (s : State) : Result :=
  .next ((s.addA n false).spend (.base 0xC6) 8)

/-- ADC A,n (R256). -/
def exec_adc_A_n (n : Byte) (s : State) : Result :=
  .next ((s.addA n s.flagC).spend (.base 0xCE) 8)

/-- SUB n (R259). -/
def exec_sub_n (n : Byte) (s : State) : Result :=
  .next ((s.subA n false).spend (.base 0xD6) 8)

/-- SBC A,n (R262). -/
def exec_sbc_A_n (n : Byte) (s : State) : Result :=
  .next ((s.subA n s.flagC).spend (.base 0xDE) 8)

/-- AND n (R265). -/
def exec_and_n (n : Byte) (s : State) : Result :=
  .next ((s.andA n).spend (.base 0xE6) 8)

/-- XOR n (R268). -/
def exec_xor_n (n : Byte) (s : State) : Result :=
  .next ((s.xorA n).spend (.base 0xEE) 8)

/-- OR n (R271). -/
def exec_or_n (n : Byte) (s : State) : Result :=
  .next ((s.orA n).spend (.base 0xF6) 8)

/-- CP n (R274). -/
def exec_cp_n (n : Byte) (s : State) : Result :=
  .next ((s.compareA n false).spend (.base 0xFE) 8)

end Sys2Proof.Machine
end

