-- ==== Sys2Proof/Machine/Control.lean ====
section
/-! DEFINITION. Jumps, calls, returns and restarts (46_control.md). PC already points past the encoding (00_scope.md R11). -/

namespace Sys2Proof.Machine

/-- `PC <- target`. -/
def State.jumpTo (s : State) (target : Word) : State := { s with pc := target }

/-- A conditional jump: not taken it costs `nt`, taken `t` (R372, R375). -/
def State.jumpIf (s : State) (cc : Cond) (target : Word) (op : Byte) (nt t : Nat) : State :=
  if s.cond cc then (s.jumpTo target).spend (.taken op) t else s.spend (.base op) nt

/-- `Push(PC); PC <- target`: PC is already past the encoding (R376, R381). -/
def State.callTo (s : State) (target : Word) : State := (s.push s.pc).jumpTo target

/-- A conditional call; not taken, SP and memory are unchanged (R377). -/
def State.callIf (s : State) (cc : Cond) (target : Word) (op : Byte) (nt t : Nat) : State :=
  if s.cond cc then (s.callTo target).spend (.taken op) t else s.spend (.base op) nt

/-- `PC <- Pop()` (R378). -/
def State.returnFromCall (s : State) : State := s.popped.jumpTo s.popValue

/-- A conditional return (R379). -/
def State.returnIf (s : State) (cc : Cond) (op : Byte) (nt t : Nat) : State :=
  if s.cond cc then s.returnFromCall.spend (.taken op) t else s.spend (.base op) nt

/-- JR e (R374). -/
def exec_jr_e (e : Byte) (s : State) : Result :=
  .next ((s.jumpTo (s.pc + sext16 e)).spend (.base 0x18) 12)

/-- JR NZ,e (R375). -/
def exec_jr_NZ_e (e : Byte) (s : State) : Result :=
  .next (s.jumpIf .nz (s.pc + sext16 e) 0x20 8 12)

/-- JR Z,e (R375). -/
def exec_jr_Z_e (e : Byte) (s : State) : Result :=
  .next (s.jumpIf .z (s.pc + sext16 e) 0x28 8 12)

/-- JR NC,e (R375). -/
def exec_jr_NC_e (e : Byte) (s : State) : Result :=
  .next (s.jumpIf .nc (s.pc + sext16 e) 0x30 8 12)

/-- JR C,e (R375). -/
def exec_jr_C_e (e : Byte) (s : State) : Result :=
  .next (s.jumpIf .c (s.pc + sext16 e) 0x38 8 12)

/-- RET NZ (R379). -/
def exec_ret_NZ (s : State) : Result :=
  .next (s.returnIf .nz 0xC0 8 20)

/-- JP NZ,nn (R372). -/
def exec_jp_NZ_nn (nn : Word) (s : State) : Result :=
  .next (s.jumpIf .nz nn 0xC2 12 16)

/-- JP nn (R371). -/
def exec_jp_nn (nn : Word) (s : State) : Result :=
  .next ((s.jumpTo nn).spend (.base 0xC3) 16)

/-- CALL NZ,nn (R377). -/
def exec_call_NZ_nn (nn : Word) (s : State) : Result :=
  .next (s.callIf .nz nn 0xC4 12 24)

/-- RST 00H (R381). -/
def exec_rst_00H (s : State) : Result :=
  .next ((s.callTo 0x0000#16).spend (.base 0xC7) 16)

/-- RET Z (R379). -/
def exec_ret_Z (s : State) : Result :=
  .next (s.returnIf .z 0xC8 8 20)

/-- RET (R378). -/
def exec_ret (s : State) : Result :=
  .next (s.returnFromCall.spend (.base 0xC9) 16)

/-- JP Z,nn (R372). -/
def exec_jp_Z_nn (nn : Word) (s : State) : Result :=
  .next (s.jumpIf .z nn 0xCA 12 16)

/-- CALL Z,nn (R377). -/
def exec_call_Z_nn (nn : Word) (s : State) : Result :=
  .next (s.callIf .z nn 0xCC 12 24)

/-- CALL nn (R376). -/
def exec_call_nn (nn : Word) (s : State) : Result :=
  .next ((s.callTo nn).spend (.base 0xCD) 24)

/-- RST 08H (R381). -/
def exec_rst_08H (s : State) : Result :=
  .next ((s.callTo 0x0008#16).spend (.base 0xCF) 16)

/-- RET NC (R379). -/
def exec_ret_NC (s : State) : Result :=
  .next (s.returnIf .nc 0xD0 8 20)

/-- JP NC,nn (R372). -/
def exec_jp_NC_nn (nn : Word) (s : State) : Result :=
  .next (s.jumpIf .nc nn 0xD2 12 16)

/-- CALL NC,nn (R377). -/
def exec_call_NC_nn (nn : Word) (s : State) : Result :=
  .next (s.callIf .nc nn 0xD4 12 24)

/-- RST 10H (R381). -/
def exec_rst_10H (s : State) : Result :=
  .next ((s.callTo 0x0010#16).spend (.base 0xD7) 16)

/-- RET C (R379). -/
def exec_ret_C (s : State) : Result :=
  .next (s.returnIf .c 0xD8 8 20)

/-- RETI (R380). -/
def exec_reti (s : State) : Result :=
  .next (s.returnFromInterrupt.spend (.base 0xD9) 16)

/-- JP C,nn (R372). -/
def exec_jp_C_nn (nn : Word) (s : State) : Result :=
  .next (s.jumpIf .c nn 0xDA 12 16)

/-- CALL C,nn (R377). -/
def exec_call_C_nn (nn : Word) (s : State) : Result :=
  .next (s.callIf .c nn 0xDC 12 24)

/-- RST 18H (R381). -/
def exec_rst_18H (s : State) : Result :=
  .next ((s.callTo 0x0018#16).spend (.base 0xDF) 16)

/-- RST 20H (R381). -/
def exec_rst_20H (s : State) : Result :=
  .next ((s.callTo 0x0020#16).spend (.base 0xE7) 16)

/-- JP HL (R373). -/
def exec_jp_HL (s : State) : Result :=
  .next ((s.jumpTo s.hl).spend (.base 0xE9) 4)

/-- RST 28H (R381). -/
def exec_rst_28H (s : State) : Result :=
  .next ((s.callTo 0x0028#16).spend (.base 0xEF) 16)

/-- RST 30H (R381). -/
def exec_rst_30H (s : State) : Result :=
  .next ((s.callTo 0x0030#16).spend (.base 0xF7) 16)

/-- RST 38H (R381). -/
def exec_rst_38H (s : State) : Result :=
  .next ((s.callTo 0x0038#16).spend (.base 0xFF) 16)

end Sys2Proof.Machine
end

