-- ==== Sys2Proof/Machine/Load16.lean ====
section
/-! DEFINITION. 16-bit loads and stack operations (41_load16.md). PC already points past the encoding (00_scope.md R11). -/

namespace Sys2Proof.Machine

/-- LD BC,nn (R231). -/
def exec_ld_BC_nn (nn : Word) (s : State) : Result :=
  .next ((s.setPair .bc nn).spend (.base 0x01) 12)

/-- LD (nn),SP (R232). -/
def exec_ld_atnn_SP (nn : Word) (s : State) : Result :=
  .next ((s.writeWord nn s.sp).spend (.base 0x08) 20)

/-- LD DE,nn (R231). -/
def exec_ld_DE_nn (nn : Word) (s : State) : Result :=
  .next ((s.setPair .de nn).spend (.base 0x11) 12)

/-- LD HL,nn (R231). -/
def exec_ld_HL_nn (nn : Word) (s : State) : Result :=
  .next ((s.setPair .hl nn).spend (.base 0x21) 12)

/-- LD SP,nn (R231). -/
def exec_ld_SP_nn (nn : Word) (s : State) : Result :=
  .next ((s.setPair .sp nn).spend (.base 0x31) 12)

/-- POP BC (R236). -/
def exec_pop_BC (s : State) : Result :=
  .next ((s.popped.setStackPair .bc s.popValue).spend (.base 0xC1) 12)

/-- PUSH BC (R235). -/
def exec_push_BC (s : State) : Result :=
  .next ((s.push (s.stackPair .bc)).spend (.base 0xC5) 16)

/-- POP DE (R236). -/
def exec_pop_DE (s : State) : Result :=
  .next ((s.popped.setStackPair .de s.popValue).spend (.base 0xD1) 12)

/-- PUSH DE (R235). -/
def exec_push_DE (s : State) : Result :=
  .next ((s.push (s.stackPair .de)).spend (.base 0xD5) 16)

/-- POP HL (R236). -/
def exec_pop_HL (s : State) : Result :=
  .next ((s.popped.setStackPair .hl s.popValue).spend (.base 0xE1) 12)

/-- PUSH HL (R235). -/
def exec_push_HL (s : State) : Result :=
  .next ((s.push (s.stackPair .hl)).spend (.base 0xE5) 16)

/-- POP AF (R236). -/
def exec_pop_AF (s : State) : Result :=
  .next ((s.popped.setStackPair .af s.popValue).spend (.base 0xF1) 12)

/-- PUSH AF (R235). -/
def exec_push_AF (s : State) : Result :=
  .next ((s.push (s.stackPair .af)).spend (.base 0xF5) 16)

/-- LD HL,SP+e (R234). -/
def exec_ld_HL_SPe (e : Byte) (s : State) : Result :=
  .next ((s.ldHLSP e).spend (.base 0xF8) 12)

/-- LD SP,HL (R233). -/
def exec_ld_SP_HL (s : State) : Result :=
  .next ((s.setPair .sp s.hl).spend (.base 0xF9) 8)

end Sys2Proof.Machine
end

