-- ==== Sys2Proof/Machine/Load8.lean ====
section
/-! DEFINITION. 8-bit loads and stores (40_load8.md). PC already points past the encoding (00_scope.md R11). -/

namespace Sys2Proof.Machine

/-- LD (BC),A (R208). -/
def exec_ld_atBC_A (s : State) : Result :=
  .next ((s.writeByte s.bc s.a).spend (.base 0x02) 8)

/-- LD B,n (R202). -/
def exec_ld_B_n (n : Byte) (s : State) : Result :=
  .next ((s.setReg .b n).spend (.base 0x06) 8)

/-- LD A,(BC) (R206). -/
def exec_ld_A_atBC (s : State) : Result :=
  .next ((s.setReg .a (s.readByte s.bc)).spend (.base 0x0A) 8)

/-- LD C,n (R202). -/
def exec_ld_C_n (n : Byte) (s : State) : Result :=
  .next ((s.setReg .c n).spend (.base 0x0E) 8)

/-- LD (DE),A (R209). -/
def exec_ld_atDE_A (s : State) : Result :=
  .next ((s.writeByte s.de s.a).spend (.base 0x12) 8)

/-- LD D,n (R202). -/
def exec_ld_D_n (n : Byte) (s : State) : Result :=
  .next ((s.setReg .d n).spend (.base 0x16) 8)

/-- LD A,(DE) (R207). -/
def exec_ld_A_atDE (s : State) : Result :=
  .next ((s.setReg .a (s.readByte s.de)).spend (.base 0x1A) 8)

/-- LD E,n (R202). -/
def exec_ld_E_n (n : Byte) (s : State) : Result :=
  .next ((s.setReg .e n).spend (.base 0x1E) 8)

/-- LD (HL+),A (R218). -/
def exec_ld_atHLi_A (s : State) : Result :=
  .next (((s.writeHL s.a).setPair .hl (s.hl + 1)).spend (.base 0x22) 8)

/-- LD H,n (R202). -/
def exec_ld_H_n (n : Byte) (s : State) : Result :=
  .next ((s.setReg .h n).spend (.base 0x26) 8)

/-- LD A,(HL+) (R216). -/
def exec_ld_A_atHLi (s : State) : Result :=
  .next (((s.setReg .a s.readHL).setPair .hl (s.hl + 1)).spend (.base 0x2A) 8)

/-- LD L,n (R202). -/
def exec_ld_L_n (n : Byte) (s : State) : Result :=
  .next ((s.setReg .l n).spend (.base 0x2E) 8)

/-- LD (HL-),A (R219). -/
def exec_ld_atHLd_A (s : State) : Result :=
  .next (((s.writeHL s.a).setPair .hl (s.hl - 1)).spend (.base 0x32) 8)

/-- LD (HL),n (R205). -/
def exec_ld_atHL_n (n : Byte) (s : State) : Result :=
  .next ((s.writeHL n).spend (.base 0x36) 12)

/-- LD A,(HL-) (R217). -/
def exec_ld_A_atHLd (s : State) : Result :=
  .next (((s.setReg .a s.readHL).setPair .hl (s.hl - 1)).spend (.base 0x3A) 8)

/-- LD A,n (R202). -/
def exec_ld_A_n (n : Byte) (s : State) : Result :=
  .next ((s.setReg .a n).spend (.base 0x3E) 8)

/-- LD B,B (R201). -/
def exec_ld_B_B (s : State) : Result :=
  .next ((s.setReg .b (s.reg .b)).spend (.base 0x40) 4)

/-- LD B,C (R201). -/
def exec_ld_B_C (s : State) : Result :=
  .next ((s.setReg .b (s.reg .c)).spend (.base 0x41) 4)

/-- LD B,D (R201). -/
def exec_ld_B_D (s : State) : Result :=
  .next ((s.setReg .b (s.reg .d)).spend (.base 0x42) 4)

/-- LD B,E (R201). -/
def exec_ld_B_E (s : State) : Result :=
  .next ((s.setReg .b (s.reg .e)).spend (.base 0x43) 4)

/-- LD B,H (R201). -/
def exec_ld_B_H (s : State) : Result :=
  .next ((s.setReg .b (s.reg .h)).spend (.base 0x44) 4)

/-- LD B,L (R201). -/
def exec_ld_B_L (s : State) : Result :=
  .next ((s.setReg .b (s.reg .l)).spend (.base 0x45) 4)

/-- LD B,(HL) (R203). -/
def exec_ld_B_atHL (s : State) : Result :=
  .next ((s.setReg .b s.readHL).spend (.base 0x46) 8)

/-- LD B,A (R201). -/
def exec_ld_B_A (s : State) : Result :=
  .next ((s.setReg .b (s.reg .a)).spend (.base 0x47) 4)

/-- LD C,B (R201). -/
def exec_ld_C_B (s : State) : Result :=
  .next ((s.setReg .c (s.reg .b)).spend (.base 0x48) 4)

/-- LD C,C (R201). -/
def exec_ld_C_C (s : State) : Result :=
  .next ((s.setReg .c (s.reg .c)).spend (.base 0x49) 4)

/-- LD C,D (R201). -/
def exec_ld_C_D (s : State) : Result :=
  .next ((s.setReg .c (s.reg .d)).spend (.base 0x4A) 4)

/-- LD C,E (R201). -/
def exec_ld_C_E (s : State) : Result :=
  .next ((s.setReg .c (s.reg .e)).spend (.base 0x4B) 4)

/-- LD C,H (R201). -/
def exec_ld_C_H (s : State) : Result :=
  .next ((s.setReg .c (s.reg .h)).spend (.base 0x4C) 4)

/-- LD C,L (R201). -/
def exec_ld_C_L (s : State) : Result :=
  .next ((s.setReg .c (s.reg .l)).spend (.base 0x4D) 4)

/-- LD C,(HL) (R203). -/
def exec_ld_C_atHL (s : State) : Result :=
  .next ((s.setReg .c s.readHL).spend (.base 0x4E) 8)

/-- LD C,A (R201). -/
def exec_ld_C_A (s : State) : Result :=
  .next ((s.setReg .c (s.reg .a)).spend (.base 0x4F) 4)

/-- LD D,B (R201). -/
def exec_ld_D_B (s : State) : Result :=
  .next ((s.setReg .d (s.reg .b)).spend (.base 0x50) 4)

/-- LD D,C (R201). -/
def exec_ld_D_C (s : State) : Result :=
  .next ((s.setReg .d (s.reg .c)).spend (.base 0x51) 4)

/-- LD D,D (R201). -/
def exec_ld_D_D (s : State) : Result :=
  .next ((s.setReg .d (s.reg .d)).spend (.base 0x52) 4)

/-- LD D,E (R201). -/
def exec_ld_D_E (s : State) : Result :=
  .next ((s.setReg .d (s.reg .e)).spend (.base 0x53) 4)

/-- LD D,H (R201). -/
def exec_ld_D_H (s : State) : Result :=
  .next ((s.setReg .d (s.reg .h)).spend (.base 0x54) 4)

/-- LD D,L (R201). -/
def exec_ld_D_L (s : State) : Result :=
  .next ((s.setReg .d (s.reg .l)).spend (.base 0x55) 4)

/-- LD D,(HL) (R203). -/
def exec_ld_D_atHL (s : State) : Result :=
  .next ((s.setReg .d s.readHL).spend (.base 0x56) 8)

/-- LD D,A (R201). -/
def exec_ld_D_A (s : State) : Result :=
  .next ((s.setReg .d (s.reg .a)).spend (.base 0x57) 4)

/-- LD E,B (R201). -/
def exec_ld_E_B (s : State) : Result :=
  .next ((s.setReg .e (s.reg .b)).spend (.base 0x58) 4)

/-- LD E,C (R201). -/
def exec_ld_E_C (s : State) : Result :=
  .next ((s.setReg .e (s.reg .c)).spend (.base 0x59) 4)

/-- LD E,D (R201). -/
def exec_ld_E_D (s : State) : Result :=
  .next ((s.setReg .e (s.reg .d)).spend (.base 0x5A) 4)

/-- LD E,E (R201). -/
def exec_ld_E_E (s : State) : Result :=
  .next ((s.setReg .e (s.reg .e)).spend (.base 0x5B) 4)

/-- LD E,H (R201). -/
def exec_ld_E_H (s : State) : Result :=
  .next ((s.setReg .e (s.reg .h)).spend (.base 0x5C) 4)

/-- LD E,L (R201). -/
def exec_ld_E_L (s : State) : Result :=
  .next ((s.setReg .e (s.reg .l)).spend (.base 0x5D) 4)

/-- LD E,(HL) (R203). -/
def exec_ld_E_atHL (s : State) : Result :=
  .next ((s.setReg .e s.readHL).spend (.base 0x5E) 8)

/-- LD E,A (R201). -/
def exec_ld_E_A (s : State) : Result :=
  .next ((s.setReg .e (s.reg .a)).spend (.base 0x5F) 4)

/-- LD H,B (R201). -/
def exec_ld_H_B (s : State) : Result :=
  .next ((s.setReg .h (s.reg .b)).spend (.base 0x60) 4)

/-- LD H,C (R201). -/
def exec_ld_H_C (s : State) : Result :=
  .next ((s.setReg .h (s.reg .c)).spend (.base 0x61) 4)

/-- LD H,D (R201). -/
def exec_ld_H_D (s : State) : Result :=
  .next ((s.setReg .h (s.reg .d)).spend (.base 0x62) 4)

/-- LD H,E (R201). -/
def exec_ld_H_E (s : State) : Result :=
  .next ((s.setReg .h (s.reg .e)).spend (.base 0x63) 4)

/-- LD H,H (R201). -/
def exec_ld_H_H (s : State) : Result :=
  .next ((s.setReg .h (s.reg .h)).spend (.base 0x64) 4)

/-- LD H,L (R201). -/
def exec_ld_H_L (s : State) : Result :=
  .next ((s.setReg .h (s.reg .l)).spend (.base 0x65) 4)

/-- LD H,(HL) (R203). -/
def exec_ld_H_atHL (s : State) : Result :=
  .next ((s.setReg .h s.readHL).spend (.base 0x66) 8)

/-- LD H,A (R201). -/
def exec_ld_H_A (s : State) : Result :=
  .next ((s.setReg .h (s.reg .a)).spend (.base 0x67) 4)

/-- LD L,B (R201). -/
def exec_ld_L_B (s : State) : Result :=
  .next ((s.setReg .l (s.reg .b)).spend (.base 0x68) 4)

/-- LD L,C (R201). -/
def exec_ld_L_C (s : State) : Result :=
  .next ((s.setReg .l (s.reg .c)).spend (.base 0x69) 4)

/-- LD L,D (R201). -/
def exec_ld_L_D (s : State) : Result :=
  .next ((s.setReg .l (s.reg .d)).spend (.base 0x6A) 4)

/-- LD L,E (R201). -/
def exec_ld_L_E (s : State) : Result :=
  .next ((s.setReg .l (s.reg .e)).spend (.base 0x6B) 4)

/-- LD L,H (R201). -/
def exec_ld_L_H (s : State) : Result :=
  .next ((s.setReg .l (s.reg .h)).spend (.base 0x6C) 4)

/-- LD L,L (R201). -/
def exec_ld_L_L (s : State) : Result :=
  .next ((s.setReg .l (s.reg .l)).spend (.base 0x6D) 4)

/-- LD L,(HL) (R203). -/
def exec_ld_L_atHL (s : State) : Result :=
  .next ((s.setReg .l s.readHL).spend (.base 0x6E) 8)

/-- LD L,A (R201). -/
def exec_ld_L_A (s : State) : Result :=
  .next ((s.setReg .l (s.reg .a)).spend (.base 0x6F) 4)

/-- LD (HL),B (R204). -/
def exec_ld_atHL_B (s : State) : Result :=
  .next ((s.writeHL (s.reg .b)).spend (.base 0x70) 8)

/-- LD (HL),C (R204). -/
def exec_ld_atHL_C (s : State) : Result :=
  .next ((s.writeHL (s.reg .c)).spend (.base 0x71) 8)

/-- LD (HL),D (R204). -/
def exec_ld_atHL_D (s : State) : Result :=
  .next ((s.writeHL (s.reg .d)).spend (.base 0x72) 8)

/-- LD (HL),E (R204). -/
def exec_ld_atHL_E (s : State) : Result :=
  .next ((s.writeHL (s.reg .e)).spend (.base 0x73) 8)

/-- LD (HL),H (R204). -/
def exec_ld_atHL_H (s : State) : Result :=
  .next ((s.writeHL (s.reg .h)).spend (.base 0x74) 8)

/-- LD (HL),L (R204). -/
def exec_ld_atHL_L (s : State) : Result :=
  .next ((s.writeHL (s.reg .l)).spend (.base 0x75) 8)

/-- LD (HL),A (R204). -/
def exec_ld_atHL_A (s : State) : Result :=
  .next ((s.writeHL (s.reg .a)).spend (.base 0x77) 8)

/-- LD A,B (R201). -/
def exec_ld_A_B (s : State) : Result :=
  .next ((s.setReg .a (s.reg .b)).spend (.base 0x78) 4)

/-- LD A,C (R201). -/
def exec_ld_A_C (s : State) : Result :=
  .next ((s.setReg .a (s.reg .c)).spend (.base 0x79) 4)

/-- LD A,D (R201). -/
def exec_ld_A_D (s : State) : Result :=
  .next ((s.setReg .a (s.reg .d)).spend (.base 0x7A) 4)

/-- LD A,E (R201). -/
def exec_ld_A_E (s : State) : Result :=
  .next ((s.setReg .a (s.reg .e)).spend (.base 0x7B) 4)

/-- LD A,H (R201). -/
def exec_ld_A_H (s : State) : Result :=
  .next ((s.setReg .a (s.reg .h)).spend (.base 0x7C) 4)

/-- LD A,L (R201). -/
def exec_ld_A_L (s : State) : Result :=
  .next ((s.setReg .a (s.reg .l)).spend (.base 0x7D) 4)

/-- LD A,(HL) (R203). -/
def exec_ld_A_atHL (s : State) : Result :=
  .next ((s.setReg .a s.readHL).spend (.base 0x7E) 8)

/-- LD A,A (R201). -/
def exec_ld_A_A (s : State) : Result :=
  .next ((s.setReg .a (s.reg .a)).spend (.base 0x7F) 4)

/-- LDH (n),A (R213). -/
def exec_ldh_atn_A (n : Byte) (s : State) : Result :=
  .next ((s.writeByte (highPage n) s.a).spend (.base 0xE0) 12)

/-- LD (C),A (R215). -/
def exec_ld_atC_A (s : State) : Result :=
  .next ((s.writeByte (highPage s.c) s.a).spend (.base 0xE2) 8)

/-- LD (nn),A (R211). -/
def exec_ld_atnn_A (nn : Word) (s : State) : Result :=
  .next ((s.writeByte nn s.a).spend (.base 0xEA) 16)

/-- LDH A,(n) (R212). -/
def exec_ldh_A_atn (n : Byte) (s : State) : Result :=
  .next ((s.setReg .a (s.readByte (highPage n))).spend (.base 0xF0) 12)

/-- LD A,(C) (R214). -/
def exec_ld_A_atC (s : State) : Result :=
  .next ((s.setReg .a (s.readByte (highPage s.c))).spend (.base 0xF2) 8)

/-- LD A,(nn) (R210). -/
def exec_ld_A_atnn (nn : Word) (s : State) : Result :=
  .next ((s.setReg .a (s.readByte nn)).spend (.base 0xFA) 16)

end Sys2Proof.Machine
end

