-- ==== Sys2Proof/Machine/RotateShift.lean ====
section
/-! DEFINITION. Rotates, shifts and SWAP (44_rotate_shift.md). PC already points past the encoding (00_scope.md R11). -/

namespace Sys2Proof.Machine

/-- RLCA (R321). -/
def exec_rlca (s : State) : Result :=
  .next ((s.rotateA .rlc).spend (.base 0x07) 4)

/-- RRCA (R322). -/
def exec_rrca (s : State) : Result :=
  .next ((s.rotateA .rrc).spend (.base 0x0F) 4)

/-- RLA (R323). -/
def exec_rla (s : State) : Result :=
  .next ((s.rotateA .rl).spend (.base 0x17) 4)

/-- RRA (R324). -/
def exec_rra (s : State) : Result :=
  .next ((s.rotateA .rr).spend (.base 0x1F) 4)

/-- RLC B (R325). -/
def exec_rlc_B (s : State) : Result :=
  .next ((s.shiftReg .rlc .b).spend (.cb 0x00) 8)

/-- RLC C (R325). -/
def exec_rlc_C (s : State) : Result :=
  .next ((s.shiftReg .rlc .c).spend (.cb 0x01) 8)

/-- RLC D (R325). -/
def exec_rlc_D (s : State) : Result :=
  .next ((s.shiftReg .rlc .d).spend (.cb 0x02) 8)

/-- RLC E (R325). -/
def exec_rlc_E (s : State) : Result :=
  .next ((s.shiftReg .rlc .e).spend (.cb 0x03) 8)

/-- RLC H (R325). -/
def exec_rlc_H (s : State) : Result :=
  .next ((s.shiftReg .rlc .h).spend (.cb 0x04) 8)

/-- RLC L (R325). -/
def exec_rlc_L (s : State) : Result :=
  .next ((s.shiftReg .rlc .l).spend (.cb 0x05) 8)

/-- RLC (HL) (R326). -/
def exec_rlc_atHL (s : State) : Result :=
  .next ((s.shiftHLMem .rlc).spend (.cb 0x06) 16)

/-- RLC A (R325). -/
def exec_rlc_A (s : State) : Result :=
  .next ((s.shiftReg .rlc .a).spend (.cb 0x07) 8)

/-- RRC B (R327). -/
def exec_rrc_B (s : State) : Result :=
  .next ((s.shiftReg .rrc .b).spend (.cb 0x08) 8)

/-- RRC C (R327). -/
def exec_rrc_C (s : State) : Result :=
  .next ((s.shiftReg .rrc .c).spend (.cb 0x09) 8)

/-- RRC D (R327). -/
def exec_rrc_D (s : State) : Result :=
  .next ((s.shiftReg .rrc .d).spend (.cb 0x0A) 8)

/-- RRC E (R327). -/
def exec_rrc_E (s : State) : Result :=
  .next ((s.shiftReg .rrc .e).spend (.cb 0x0B) 8)

/-- RRC H (R327). -/
def exec_rrc_H (s : State) : Result :=
  .next ((s.shiftReg .rrc .h).spend (.cb 0x0C) 8)

/-- RRC L (R327). -/
def exec_rrc_L (s : State) : Result :=
  .next ((s.shiftReg .rrc .l).spend (.cb 0x0D) 8)

/-- RRC (HL) (R328). -/
def exec_rrc_atHL (s : State) : Result :=
  .next ((s.shiftHLMem .rrc).spend (.cb 0x0E) 16)

/-- RRC A (R327). -/
def exec_rrc_A (s : State) : Result :=
  .next ((s.shiftReg .rrc .a).spend (.cb 0x0F) 8)

/-- RL B (R329). -/
def exec_rl_B (s : State) : Result :=
  .next ((s.shiftReg .rl .b).spend (.cb 0x10) 8)

/-- RL C (R329). -/
def exec_rl_C (s : State) : Result :=
  .next ((s.shiftReg .rl .c).spend (.cb 0x11) 8)

/-- RL D (R329). -/
def exec_rl_D (s : State) : Result :=
  .next ((s.shiftReg .rl .d).spend (.cb 0x12) 8)

/-- RL E (R329). -/
def exec_rl_E (s : State) : Result :=
  .next ((s.shiftReg .rl .e).spend (.cb 0x13) 8)

/-- RL H (R329). -/
def exec_rl_H (s : State) : Result :=
  .next ((s.shiftReg .rl .h).spend (.cb 0x14) 8)

/-- RL L (R329). -/
def exec_rl_L (s : State) : Result :=
  .next ((s.shiftReg .rl .l).spend (.cb 0x15) 8)

/-- RL (HL) (R330). -/
def exec_rl_atHL (s : State) : Result :=
  .next ((s.shiftHLMem .rl).spend (.cb 0x16) 16)

/-- RL A (R329). -/
def exec_rl_A (s : State) : Result :=
  .next ((s.shiftReg .rl .a).spend (.cb 0x17) 8)

/-- RR B (R331). -/
def exec_rr_B (s : State) : Result :=
  .next ((s.shiftReg .rr .b).spend (.cb 0x18) 8)

/-- RR C (R331). -/
def exec_rr_C (s : State) : Result :=
  .next ((s.shiftReg .rr .c).spend (.cb 0x19) 8)

/-- RR D (R331). -/
def exec_rr_D (s : State) : Result :=
  .next ((s.shiftReg .rr .d).spend (.cb 0x1A) 8)

/-- RR E (R331). -/
def exec_rr_E (s : State) : Result :=
  .next ((s.shiftReg .rr .e).spend (.cb 0x1B) 8)

/-- RR H (R331). -/
def exec_rr_H (s : State) : Result :=
  .next ((s.shiftReg .rr .h).spend (.cb 0x1C) 8)

/-- RR L (R331). -/
def exec_rr_L (s : State) : Result :=
  .next ((s.shiftReg .rr .l).spend (.cb 0x1D) 8)

/-- RR (HL) (R332). -/
def exec_rr_atHL (s : State) : Result :=
  .next ((s.shiftHLMem .rr).spend (.cb 0x1E) 16)

/-- RR A (R331). -/
def exec_rr_A (s : State) : Result :=
  .next ((s.shiftReg .rr .a).spend (.cb 0x1F) 8)

/-- SLA B (R333). -/
def exec_sla_B (s : State) : Result :=
  .next ((s.shiftReg .sla .b).spend (.cb 0x20) 8)

/-- SLA C (R333). -/
def exec_sla_C (s : State) : Result :=
  .next ((s.shiftReg .sla .c).spend (.cb 0x21) 8)

/-- SLA D (R333). -/
def exec_sla_D (s : State) : Result :=
  .next ((s.shiftReg .sla .d).spend (.cb 0x22) 8)

/-- SLA E (R333). -/
def exec_sla_E (s : State) : Result :=
  .next ((s.shiftReg .sla .e).spend (.cb 0x23) 8)

/-- SLA H (R333). -/
def exec_sla_H (s : State) : Result :=
  .next ((s.shiftReg .sla .h).spend (.cb 0x24) 8)

/-- SLA L (R333). -/
def exec_sla_L (s : State) : Result :=
  .next ((s.shiftReg .sla .l).spend (.cb 0x25) 8)

/-- SLA (HL) (R334). -/
def exec_sla_atHL (s : State) : Result :=
  .next ((s.shiftHLMem .sla).spend (.cb 0x26) 16)

/-- SLA A (R333). -/
def exec_sla_A (s : State) : Result :=
  .next ((s.shiftReg .sla .a).spend (.cb 0x27) 8)

/-- SRA B (R335). -/
def exec_sra_B (s : State) : Result :=
  .next ((s.shiftReg .sra .b).spend (.cb 0x28) 8)

/-- SRA C (R335). -/
def exec_sra_C (s : State) : Result :=
  .next ((s.shiftReg .sra .c).spend (.cb 0x29) 8)

/-- SRA D (R335). -/
def exec_sra_D (s : State) : Result :=
  .next ((s.shiftReg .sra .d).spend (.cb 0x2A) 8)

/-- SRA E (R335). -/
def exec_sra_E (s : State) : Result :=
  .next ((s.shiftReg .sra .e).spend (.cb 0x2B) 8)

/-- SRA H (R335). -/
def exec_sra_H (s : State) : Result :=
  .next ((s.shiftReg .sra .h).spend (.cb 0x2C) 8)

/-- SRA L (R335). -/
def exec_sra_L (s : State) : Result :=
  .next ((s.shiftReg .sra .l).spend (.cb 0x2D) 8)

/-- SRA (HL) (R336). -/
def exec_sra_atHL (s : State) : Result :=
  .next ((s.shiftHLMem .sra).spend (.cb 0x2E) 16)

/-- SRA A (R335). -/
def exec_sra_A (s : State) : Result :=
  .next ((s.shiftReg .sra .a).spend (.cb 0x2F) 8)

/-- SWAP B (R337). -/
def exec_swap_B (s : State) : Result :=
  .next ((s.shiftReg .swap .b).spend (.cb 0x30) 8)

/-- SWAP C (R337). -/
def exec_swap_C (s : State) : Result :=
  .next ((s.shiftReg .swap .c).spend (.cb 0x31) 8)

/-- SWAP D (R337). -/
def exec_swap_D (s : State) : Result :=
  .next ((s.shiftReg .swap .d).spend (.cb 0x32) 8)

/-- SWAP E (R337). -/
def exec_swap_E (s : State) : Result :=
  .next ((s.shiftReg .swap .e).spend (.cb 0x33) 8)

/-- SWAP H (R337). -/
def exec_swap_H (s : State) : Result :=
  .next ((s.shiftReg .swap .h).spend (.cb 0x34) 8)

/-- SWAP L (R337). -/
def exec_swap_L (s : State) : Result :=
  .next ((s.shiftReg .swap .l).spend (.cb 0x35) 8)

/-- SWAP (HL) (R338). -/
def exec_swap_atHL (s : State) : Result :=
  .next ((s.shiftHLMem .swap).spend (.cb 0x36) 16)

/-- SWAP A (R337). -/
def exec_swap_A (s : State) : Result :=
  .next ((s.shiftReg .swap .a).spend (.cb 0x37) 8)

/-- SRL B (R339). -/
def exec_srl_B (s : State) : Result :=
  .next ((s.shiftReg .srl .b).spend (.cb 0x38) 8)

/-- SRL C (R339). -/
def exec_srl_C (s : State) : Result :=
  .next ((s.shiftReg .srl .c).spend (.cb 0x39) 8)

/-- SRL D (R339). -/
def exec_srl_D (s : State) : Result :=
  .next ((s.shiftReg .srl .d).spend (.cb 0x3A) 8)

/-- SRL E (R339). -/
def exec_srl_E (s : State) : Result :=
  .next ((s.shiftReg .srl .e).spend (.cb 0x3B) 8)

/-- SRL H (R339). -/
def exec_srl_H (s : State) : Result :=
  .next ((s.shiftReg .srl .h).spend (.cb 0x3C) 8)

/-- SRL L (R339). -/
def exec_srl_L (s : State) : Result :=
  .next ((s.shiftReg .srl .l).spend (.cb 0x3D) 8)

/-- SRL (HL) (R340). -/
def exec_srl_atHL (s : State) : Result :=
  .next ((s.shiftHLMem .srl).spend (.cb 0x3E) 16)

/-- SRL A (R339). -/
def exec_srl_A (s : State) : Result :=
  .next ((s.shiftReg .srl .a).spend (.cb 0x3F) 8)

end Sys2Proof.Machine
end

