-- ==== Sys2Proof/Machine/SingleBit.lean ====
section
/-! DEFINITION. BIT, RES and SET (45_bit.md). PC already points past the encoding (00_scope.md R11). -/

namespace Sys2Proof.Machine

/-- BIT 0,B (R351). -/
def exec_bit_0_B (s : State) : Result :=
  .next ((s.bitTest 0 (s.reg .b)).spend (.cb 0x40) 8)

/-- BIT 0,C (R351). -/
def exec_bit_0_C (s : State) : Result :=
  .next ((s.bitTest 0 (s.reg .c)).spend (.cb 0x41) 8)

/-- BIT 0,D (R351). -/
def exec_bit_0_D (s : State) : Result :=
  .next ((s.bitTest 0 (s.reg .d)).spend (.cb 0x42) 8)

/-- BIT 0,E (R351). -/
def exec_bit_0_E (s : State) : Result :=
  .next ((s.bitTest 0 (s.reg .e)).spend (.cb 0x43) 8)

/-- BIT 0,H (R351). -/
def exec_bit_0_H (s : State) : Result :=
  .next ((s.bitTest 0 (s.reg .h)).spend (.cb 0x44) 8)

/-- BIT 0,L (R351). -/
def exec_bit_0_L (s : State) : Result :=
  .next ((s.bitTest 0 (s.reg .l)).spend (.cb 0x45) 8)

/-- BIT 0,(HL) (R352). -/
def exec_bit_0_atHL (s : State) : Result :=
  .next ((s.bitTest 0 s.readHL).spend (.cb 0x46) 12)

/-- BIT 0,A (R351). -/
def exec_bit_0_A (s : State) : Result :=
  .next ((s.bitTest 0 (s.reg .a)).spend (.cb 0x47) 8)

/-- BIT 1,B (R351). -/
def exec_bit_1_B (s : State) : Result :=
  .next ((s.bitTest 1 (s.reg .b)).spend (.cb 0x48) 8)

/-- BIT 1,C (R351). -/
def exec_bit_1_C (s : State) : Result :=
  .next ((s.bitTest 1 (s.reg .c)).spend (.cb 0x49) 8)

/-- BIT 1,D (R351). -/
def exec_bit_1_D (s : State) : Result :=
  .next ((s.bitTest 1 (s.reg .d)).spend (.cb 0x4A) 8)

/-- BIT 1,E (R351). -/
def exec_bit_1_E (s : State) : Result :=
  .next ((s.bitTest 1 (s.reg .e)).spend (.cb 0x4B) 8)

/-- BIT 1,H (R351). -/
def exec_bit_1_H (s : State) : Result :=
  .next ((s.bitTest 1 (s.reg .h)).spend (.cb 0x4C) 8)

/-- BIT 1,L (R351). -/
def exec_bit_1_L (s : State) : Result :=
  .next ((s.bitTest 1 (s.reg .l)).spend (.cb 0x4D) 8)

/-- BIT 1,(HL) (R352). -/
def exec_bit_1_atHL (s : State) : Result :=
  .next ((s.bitTest 1 s.readHL).spend (.cb 0x4E) 12)

/-- BIT 1,A (R351). -/
def exec_bit_1_A (s : State) : Result :=
  .next ((s.bitTest 1 (s.reg .a)).spend (.cb 0x4F) 8)

/-- BIT 2,B (R351). -/
def exec_bit_2_B (s : State) : Result :=
  .next ((s.bitTest 2 (s.reg .b)).spend (.cb 0x50) 8)

/-- BIT 2,C (R351). -/
def exec_bit_2_C (s : State) : Result :=
  .next ((s.bitTest 2 (s.reg .c)).spend (.cb 0x51) 8)

/-- BIT 2,D (R351). -/
def exec_bit_2_D (s : State) : Result :=
  .next ((s.bitTest 2 (s.reg .d)).spend (.cb 0x52) 8)

/-- BIT 2,E (R351). -/
def exec_bit_2_E (s : State) : Result :=
  .next ((s.bitTest 2 (s.reg .e)).spend (.cb 0x53) 8)

/-- BIT 2,H (R351). -/
def exec_bit_2_H (s : State) : Result :=
  .next ((s.bitTest 2 (s.reg .h)).spend (.cb 0x54) 8)

/-- BIT 2,L (R351). -/
def exec_bit_2_L (s : State) : Result :=
  .next ((s.bitTest 2 (s.reg .l)).spend (.cb 0x55) 8)

/-- BIT 2,(HL) (R352). -/
def exec_bit_2_atHL (s : State) : Result :=
  .next ((s.bitTest 2 s.readHL).spend (.cb 0x56) 12)

/-- BIT 2,A (R351). -/
def exec_bit_2_A (s : State) : Result :=
  .next ((s.bitTest 2 (s.reg .a)).spend (.cb 0x57) 8)

/-- BIT 3,B (R351). -/
def exec_bit_3_B (s : State) : Result :=
  .next ((s.bitTest 3 (s.reg .b)).spend (.cb 0x58) 8)

/-- BIT 3,C (R351). -/
def exec_bit_3_C (s : State) : Result :=
  .next ((s.bitTest 3 (s.reg .c)).spend (.cb 0x59) 8)

/-- BIT 3,D (R351). -/
def exec_bit_3_D (s : State) : Result :=
  .next ((s.bitTest 3 (s.reg .d)).spend (.cb 0x5A) 8)

/-- BIT 3,E (R351). -/
def exec_bit_3_E (s : State) : Result :=
  .next ((s.bitTest 3 (s.reg .e)).spend (.cb 0x5B) 8)

/-- BIT 3,H (R351). -/
def exec_bit_3_H (s : State) : Result :=
  .next ((s.bitTest 3 (s.reg .h)).spend (.cb 0x5C) 8)

/-- BIT 3,L (R351). -/
def exec_bit_3_L (s : State) : Result :=
  .next ((s.bitTest 3 (s.reg .l)).spend (.cb 0x5D) 8)

/-- BIT 3,(HL) (R352). -/
def exec_bit_3_atHL (s : State) : Result :=
  .next ((s.bitTest 3 s.readHL).spend (.cb 0x5E) 12)

/-- BIT 3,A (R351). -/
def exec_bit_3_A (s : State) : Result :=
  .next ((s.bitTest 3 (s.reg .a)).spend (.cb 0x5F) 8)

/-- BIT 4,B (R351). -/
def exec_bit_4_B (s : State) : Result :=
  .next ((s.bitTest 4 (s.reg .b)).spend (.cb 0x60) 8)

/-- BIT 4,C (R351). -/
def exec_bit_4_C (s : State) : Result :=
  .next ((s.bitTest 4 (s.reg .c)).spend (.cb 0x61) 8)

/-- BIT 4,D (R351). -/
def exec_bit_4_D (s : State) : Result :=
  .next ((s.bitTest 4 (s.reg .d)).spend (.cb 0x62) 8)

/-- BIT 4,E (R351). -/
def exec_bit_4_E (s : State) : Result :=
  .next ((s.bitTest 4 (s.reg .e)).spend (.cb 0x63) 8)

/-- BIT 4,H (R351). -/
def exec_bit_4_H (s : State) : Result :=
  .next ((s.bitTest 4 (s.reg .h)).spend (.cb 0x64) 8)

/-- BIT 4,L (R351). -/
def exec_bit_4_L (s : State) : Result :=
  .next ((s.bitTest 4 (s.reg .l)).spend (.cb 0x65) 8)

/-- BIT 4,(HL) (R352). -/
def exec_bit_4_atHL (s : State) : Result :=
  .next ((s.bitTest 4 s.readHL).spend (.cb 0x66) 12)

/-- BIT 4,A (R351). -/
def exec_bit_4_A (s : State) : Result :=
  .next ((s.bitTest 4 (s.reg .a)).spend (.cb 0x67) 8)

/-- BIT 5,B (R351). -/
def exec_bit_5_B (s : State) : Result :=
  .next ((s.bitTest 5 (s.reg .b)).spend (.cb 0x68) 8)

/-- BIT 5,C (R351). -/
def exec_bit_5_C (s : State) : Result :=
  .next ((s.bitTest 5 (s.reg .c)).spend (.cb 0x69) 8)

/-- BIT 5,D (R351). -/
def exec_bit_5_D (s : State) : Result :=
  .next ((s.bitTest 5 (s.reg .d)).spend (.cb 0x6A) 8)

/-- BIT 5,E (R351). -/
def exec_bit_5_E (s : State) : Result :=
  .next ((s.bitTest 5 (s.reg .e)).spend (.cb 0x6B) 8)

/-- BIT 5,H (R351). -/
def exec_bit_5_H (s : State) : Result :=
  .next ((s.bitTest 5 (s.reg .h)).spend (.cb 0x6C) 8)

/-- BIT 5,L (R351). -/
def exec_bit_5_L (s : State) : Result :=
  .next ((s.bitTest 5 (s.reg .l)).spend (.cb 0x6D) 8)

/-- BIT 5,(HL) (R352). -/
def exec_bit_5_atHL (s : State) : Result :=
  .next ((s.bitTest 5 s.readHL).spend (.cb 0x6E) 12)

/-- BIT 5,A (R351). -/
def exec_bit_5_A (s : State) : Result :=
  .next ((s.bitTest 5 (s.reg .a)).spend (.cb 0x6F) 8)

/-- BIT 6,B (R351). -/
def exec_bit_6_B (s : State) : Result :=
  .next ((s.bitTest 6 (s.reg .b)).spend (.cb 0x70) 8)

/-- BIT 6,C (R351). -/
def exec_bit_6_C (s : State) : Result :=
  .next ((s.bitTest 6 (s.reg .c)).spend (.cb 0x71) 8)

/-- BIT 6,D (R351). -/
def exec_bit_6_D (s : State) : Result :=
  .next ((s.bitTest 6 (s.reg .d)).spend (.cb 0x72) 8)

/-- BIT 6,E (R351). -/
def exec_bit_6_E (s : State) : Result :=
  .next ((s.bitTest 6 (s.reg .e)).spend (.cb 0x73) 8)

/-- BIT 6,H (R351). -/
def exec_bit_6_H (s : State) : Result :=
  .next ((s.bitTest 6 (s.reg .h)).spend (.cb 0x74) 8)

/-- BIT 6,L (R351). -/
def exec_bit_6_L (s : State) : Result :=
  .next ((s.bitTest 6 (s.reg .l)).spend (.cb 0x75) 8)

/-- BIT 6,(HL) (R352). -/
def exec_bit_6_atHL (s : State) : Result :=
  .next ((s.bitTest 6 s.readHL).spend (.cb 0x76) 12)

/-- BIT 6,A (R351). -/
def exec_bit_6_A (s : State) : Result :=
  .next ((s.bitTest 6 (s.reg .a)).spend (.cb 0x77) 8)

/-- BIT 7,B (R351). -/
def exec_bit_7_B (s : State) : Result :=
  .next ((s.bitTest 7 (s.reg .b)).spend (.cb 0x78) 8)

/-- BIT 7,C (R351). -/
def exec_bit_7_C (s : State) : Result :=
  .next ((s.bitTest 7 (s.reg .c)).spend (.cb 0x79) 8)

/-- BIT 7,D (R351). -/
def exec_bit_7_D (s : State) : Result :=
  .next ((s.bitTest 7 (s.reg .d)).spend (.cb 0x7A) 8)

/-- BIT 7,E (R351). -/
def exec_bit_7_E (s : State) : Result :=
  .next ((s.bitTest 7 (s.reg .e)).spend (.cb 0x7B) 8)

/-- BIT 7,H (R351). -/
def exec_bit_7_H (s : State) : Result :=
  .next ((s.bitTest 7 (s.reg .h)).spend (.cb 0x7C) 8)

/-- BIT 7,L (R351). -/
def exec_bit_7_L (s : State) : Result :=
  .next ((s.bitTest 7 (s.reg .l)).spend (.cb 0x7D) 8)

/-- BIT 7,(HL) (R352). -/
def exec_bit_7_atHL (s : State) : Result :=
  .next ((s.bitTest 7 s.readHL).spend (.cb 0x7E) 12)

/-- BIT 7,A (R351). -/
def exec_bit_7_A (s : State) : Result :=
  .next ((s.bitTest 7 (s.reg .a)).spend (.cb 0x7F) 8)

/-- RES 0,B (R353). -/
def exec_res_0_B (s : State) : Result :=
  .next ((s.setReg .b (clearBit (s.reg .b) 0)).spend (.cb 0x80) 8)

/-- RES 0,C (R353). -/
def exec_res_0_C (s : State) : Result :=
  .next ((s.setReg .c (clearBit (s.reg .c) 0)).spend (.cb 0x81) 8)

/-- RES 0,D (R353). -/
def exec_res_0_D (s : State) : Result :=
  .next ((s.setReg .d (clearBit (s.reg .d) 0)).spend (.cb 0x82) 8)

/-- RES 0,E (R353). -/
def exec_res_0_E (s : State) : Result :=
  .next ((s.setReg .e (clearBit (s.reg .e) 0)).spend (.cb 0x83) 8)

/-- RES 0,H (R353). -/
def exec_res_0_H (s : State) : Result :=
  .next ((s.setReg .h (clearBit (s.reg .h) 0)).spend (.cb 0x84) 8)

/-- RES 0,L (R353). -/
def exec_res_0_L (s : State) : Result :=
  .next ((s.setReg .l (clearBit (s.reg .l) 0)).spend (.cb 0x85) 8)

/-- RES 0,(HL) (R354). -/
def exec_res_0_atHL (s : State) : Result :=
  .next ((s.writeHL (clearBit s.readHL 0)).spend (.cb 0x86) 16)

/-- RES 0,A (R353). -/
def exec_res_0_A (s : State) : Result :=
  .next ((s.setReg .a (clearBit (s.reg .a) 0)).spend (.cb 0x87) 8)

/-- RES 1,B (R353). -/
def exec_res_1_B (s : State) : Result :=
  .next ((s.setReg .b (clearBit (s.reg .b) 1)).spend (.cb 0x88) 8)

/-- RES 1,C (R353). -/
def exec_res_1_C (s : State) : Result :=
  .next ((s.setReg .c (clearBit (s.reg .c) 1)).spend (.cb 0x89) 8)

/-- RES 1,D (R353). -/
def exec_res_1_D (s : State) : Result :=
  .next ((s.setReg .d (clearBit (s.reg .d) 1)).spend (.cb 0x8A) 8)

/-- RES 1,E (R353). -/
def exec_res_1_E (s : State) : Result :=
  .next ((s.setReg .e (clearBit (s.reg .e) 1)).spend (.cb 0x8B) 8)

/-- RES 1,H (R353). -/
def exec_res_1_H (s : State) : Result :=
  .next ((s.setReg .h (clearBit (s.reg .h) 1)).spend (.cb 0x8C) 8)

/-- RES 1,L (R353). -/
def exec_res_1_L (s : State) : Result :=
  .next ((s.setReg .l (clearBit (s.reg .l) 1)).spend (.cb 0x8D) 8)

/-- RES 1,(HL) (R354). -/
def exec_res_1_atHL (s : State) : Result :=
  .next ((s.writeHL (clearBit s.readHL 1)).spend (.cb 0x8E) 16)

/-- RES 1,A (R353). -/
def exec_res_1_A (s : State) : Result :=
  .next ((s.setReg .a (clearBit (s.reg .a) 1)).spend (.cb 0x8F) 8)

/-- RES 2,B (R353). -/
def exec_res_2_B (s : State) : Result :=
  .next ((s.setReg .b (clearBit (s.reg .b) 2)).spend (.cb 0x90) 8)

/-- RES 2,C (R353). -/
def exec_res_2_C (s : State) : Result :=
  .next ((s.setReg .c (clearBit (s.reg .c) 2)).spend (.cb 0x91) 8)

/-- RES 2,D (R353). -/
def exec_res_2_D (s : State) : Result :=
  .next ((s.setReg .d (clearBit (s.reg .d) 2)).spend (.cb 0x92) 8)

/-- RES 2,E (R353). -/
def exec_res_2_E (s : State) : Result :=
  .next ((s.setReg .e (clearBit (s.reg .e) 2)).spend (.cb 0x93) 8)

/-- RES 2,H (R353). -/
def exec_res_2_H (s : State) : Result :=
  .next ((s.setReg .h (clearBit (s.reg .h) 2)).spend (.cb 0x94) 8)

/-- RES 2,L (R353). -/
def exec_res_2_L (s : State) : Result :=
  .next ((s.setReg .l (clearBit (s.reg .l) 2)).spend (.cb 0x95) 8)

/-- RES 2,(HL) (R354). -/
def exec_res_2_atHL (s : State) : Result :=
  .next ((s.writeHL (clearBit s.readHL 2)).spend (.cb 0x96) 16)

/-- RES 2,A (R353). -/
def exec_res_2_A (s : State) : Result :=
  .next ((s.setReg .a (clearBit (s.reg .a) 2)).spend (.cb 0x97) 8)

/-- RES 3,B (R353). -/
def exec_res_3_B (s : State) : Result :=
  .next ((s.setReg .b (clearBit (s.reg .b) 3)).spend (.cb 0x98) 8)

/-- RES 3,C (R353). -/
def exec_res_3_C (s : State) : Result :=
  .next ((s.setReg .c (clearBit (s.reg .c) 3)).spend (.cb 0x99) 8)

/-- RES 3,D (R353). -/
def exec_res_3_D (s : State) : Result :=
  .next ((s.setReg .d (clearBit (s.reg .d) 3)).spend (.cb 0x9A) 8)

/-- RES 3,E (R353). -/
def exec_res_3_E (s : State) : Result :=
  .next ((s.setReg .e (clearBit (s.reg .e) 3)).spend (.cb 0x9B) 8)

/-- RES 3,H (R353). -/
def exec_res_3_H (s : State) : Result :=
  .next ((s.setReg .h (clearBit (s.reg .h) 3)).spend (.cb 0x9C) 8)

/-- RES 3,L (R353). -/
def exec_res_3_L (s : State) : Result :=
  .next ((s.setReg .l (clearBit (s.reg .l) 3)).spend (.cb 0x9D) 8)

/-- RES 3,(HL) (R354). -/
def exec_res_3_atHL (s : State) : Result :=
  .next ((s.writeHL (clearBit s.readHL 3)).spend (.cb 0x9E) 16)

/-- RES 3,A (R353). -/
def exec_res_3_A (s : State) : Result :=
  .next ((s.setReg .a (clearBit (s.reg .a) 3)).spend (.cb 0x9F) 8)

/-- RES 4,B (R353). -/
def exec_res_4_B (s : State) : Result :=
  .next ((s.setReg .b (clearBit (s.reg .b) 4)).spend (.cb 0xA0) 8)

/-- RES 4,C (R353). -/
def exec_res_4_C (s : State) : Result :=
  .next ((s.setReg .c (clearBit (s.reg .c) 4)).spend (.cb 0xA1) 8)

/-- RES 4,D (R353). -/
def exec_res_4_D (s : State) : Result :=
  .next ((s.setReg .d (clearBit (s.reg .d) 4)).spend (.cb 0xA2) 8)

/-- RES 4,E (R353). -/
def exec_res_4_E (s : State) : Result :=
  .next ((s.setReg .e (clearBit (s.reg .e) 4)).spend (.cb 0xA3) 8)

/-- RES 4,H (R353). -/
def exec_res_4_H (s : State) : Result :=
  .next ((s.setReg .h (clearBit (s.reg .h) 4)).spend (.cb 0xA4) 8)

/-- RES 4,L (R353). -/
def exec_res_4_L (s : State) : Result :=
  .next ((s.setReg .l (clearBit (s.reg .l) 4)).spend (.cb 0xA5) 8)

/-- RES 4,(HL) (R354). -/
def exec_res_4_atHL (s : State) : Result :=
  .next ((s.writeHL (clearBit s.readHL 4)).spend (.cb 0xA6) 16)

/-- RES 4,A (R353). -/
def exec_res_4_A (s : State) : Result :=
  .next ((s.setReg .a (clearBit (s.reg .a) 4)).spend (.cb 0xA7) 8)

/-- RES 5,B (R353). -/
def exec_res_5_B (s : State) : Result :=
  .next ((s.setReg .b (clearBit (s.reg .b) 5)).spend (.cb 0xA8) 8)

/-- RES 5,C (R353). -/
def exec_res_5_C (s : State) : Result :=
  .next ((s.setReg .c (clearBit (s.reg .c) 5)).spend (.cb 0xA9) 8)

/-- RES 5,D (R353). -/
def exec_res_5_D (s : State) : Result :=
  .next ((s.setReg .d (clearBit (s.reg .d) 5)).spend (.cb 0xAA) 8)

/-- RES 5,E (R353). -/
def exec_res_5_E (s : State) : Result :=
  .next ((s.setReg .e (clearBit (s.reg .e) 5)).spend (.cb 0xAB) 8)

/-- RES 5,H (R353). -/
def exec_res_5_H (s : State) : Result :=
  .next ((s.setReg .h (clearBit (s.reg .h) 5)).spend (.cb 0xAC) 8)

/-- RES 5,L (R353). -/
def exec_res_5_L (s : State) : Result :=
  .next ((s.setReg .l (clearBit (s.reg .l) 5)).spend (.cb 0xAD) 8)

/-- RES 5,(HL) (R354). -/
def exec_res_5_atHL (s : State) : Result :=
  .next ((s.writeHL (clearBit s.readHL 5)).spend (.cb 0xAE) 16)

/-- RES 5,A (R353). -/
def exec_res_5_A (s : State) : Result :=
  .next ((s.setReg .a (clearBit (s.reg .a) 5)).spend (.cb 0xAF) 8)

/-- RES 6,B (R353). -/
def exec_res_6_B (s : State) : Result :=
  .next ((s.setReg .b (clearBit (s.reg .b) 6)).spend (.cb 0xB0) 8)

/-- RES 6,C (R353). -/
def exec_res_6_C (s : State) : Result :=
  .next ((s.setReg .c (clearBit (s.reg .c) 6)).spend (.cb 0xB1) 8)

/-- RES 6,D (R353). -/
def exec_res_6_D (s : State) : Result :=
  .next ((s.setReg .d (clearBit (s.reg .d) 6)).spend (.cb 0xB2) 8)

/-- RES 6,E (R353). -/
def exec_res_6_E (s : State) : Result :=
  .next ((s.setReg .e (clearBit (s.reg .e) 6)).spend (.cb 0xB3) 8)

/-- RES 6,H (R353). -/
def exec_res_6_H (s : State) : Result :=
  .next ((s.setReg .h (clearBit (s.reg .h) 6)).spend (.cb 0xB4) 8)

/-- RES 6,L (R353). -/
def exec_res_6_L (s : State) : Result :=
  .next ((s.setReg .l (clearBit (s.reg .l) 6)).spend (.cb 0xB5) 8)

/-- RES 6,(HL) (R354). -/
def exec_res_6_atHL (s : State) : Result :=
  .next ((s.writeHL (clearBit s.readHL 6)).spend (.cb 0xB6) 16)

/-- RES 6,A (R353). -/
def exec_res_6_A (s : State) : Result :=
  .next ((s.setReg .a (clearBit (s.reg .a) 6)).spend (.cb 0xB7) 8)

/-- RES 7,B (R353). -/
def exec_res_7_B (s : State) : Result :=
  .next ((s.setReg .b (clearBit (s.reg .b) 7)).spend (.cb 0xB8) 8)

/-- RES 7,C (R353). -/
def exec_res_7_C (s : State) : Result :=
  .next ((s.setReg .c (clearBit (s.reg .c) 7)).spend (.cb 0xB9) 8)

/-- RES 7,D (R353). -/
def exec_res_7_D (s : State) : Result :=
  .next ((s.setReg .d (clearBit (s.reg .d) 7)).spend (.cb 0xBA) 8)

/-- RES 7,E (R353). -/
def exec_res_7_E (s : State) : Result :=
  .next ((s.setReg .e (clearBit (s.reg .e) 7)).spend (.cb 0xBB) 8)

/-- RES 7,H (R353). -/
def exec_res_7_H (s : State) : Result :=
  .next ((s.setReg .h (clearBit (s.reg .h) 7)).spend (.cb 0xBC) 8)

/-- RES 7,L (R353). -/
def exec_res_7_L (s : State) : Result :=
  .next ((s.setReg .l (clearBit (s.reg .l) 7)).spend (.cb 0xBD) 8)

/-- RES 7,(HL) (R354). -/
def exec_res_7_atHL (s : State) : Result :=
  .next ((s.writeHL (clearBit s.readHL 7)).spend (.cb 0xBE) 16)

/-- RES 7,A (R353). -/
def exec_res_7_A (s : State) : Result :=
  .next ((s.setReg .a (clearBit (s.reg .a) 7)).spend (.cb 0xBF) 8)

/-- SET 0,B (R355). -/
def exec_set_0_B (s : State) : Result :=
  .next ((s.setReg .b (setBit (s.reg .b) 0)).spend (.cb 0xC0) 8)

/-- SET 0,C (R355). -/
def exec_set_0_C (s : State) : Result :=
  .next ((s.setReg .c (setBit (s.reg .c) 0)).spend (.cb 0xC1) 8)

/-- SET 0,D (R355). -/
def exec_set_0_D (s : State) : Result :=
  .next ((s.setReg .d (setBit (s.reg .d) 0)).spend (.cb 0xC2) 8)

/-- SET 0,E (R355). -/
def exec_set_0_E (s : State) : Result :=
  .next ((s.setReg .e (setBit (s.reg .e) 0)).spend (.cb 0xC3) 8)

/-- SET 0,H (R355). -/
def exec_set_0_H (s : State) : Result :=
  .next ((s.setReg .h (setBit (s.reg .h) 0)).spend (.cb 0xC4) 8)

/-- SET 0,L (R355). -/
def exec_set_0_L (s : State) : Result :=
  .next ((s.setReg .l (setBit (s.reg .l) 0)).spend (.cb 0xC5) 8)

/-- SET 0,(HL) (R356). -/
def exec_set_0_atHL (s : State) : Result :=
  .next ((s.writeHL (setBit s.readHL 0)).spend (.cb 0xC6) 16)

/-- SET 0,A (R355). -/
def exec_set_0_A (s : State) : Result :=
  .next ((s.setReg .a (setBit (s.reg .a) 0)).spend (.cb 0xC7) 8)

/-- SET 1,B (R355). -/
def exec_set_1_B (s : State) : Result :=
  .next ((s.setReg .b (setBit (s.reg .b) 1)).spend (.cb 0xC8) 8)

/-- SET 1,C (R355). -/
def exec_set_1_C (s : State) : Result :=
  .next ((s.setReg .c (setBit (s.reg .c) 1)).spend (.cb 0xC9) 8)

/-- SET 1,D (R355). -/
def exec_set_1_D (s : State) : Result :=
  .next ((s.setReg .d (setBit (s.reg .d) 1)).spend (.cb 0xCA) 8)

/-- SET 1,E (R355). -/
def exec_set_1_E (s : State) : Result :=
  .next ((s.setReg .e (setBit (s.reg .e) 1)).spend (.cb 0xCB) 8)

/-- SET 1,H (R355). -/
def exec_set_1_H (s : State) : Result :=
  .next ((s.setReg .h (setBit (s.reg .h) 1)).spend (.cb 0xCC) 8)

/-- SET 1,L (R355). -/
def exec_set_1_L (s : State) : Result :=
  .next ((s.setReg .l (setBit (s.reg .l) 1)).spend (.cb 0xCD) 8)

/-- SET 1,(HL) (R356). -/
def exec_set_1_atHL (s : State) : Result :=
  .next ((s.writeHL (setBit s.readHL 1)).spend (.cb 0xCE) 16)

/-- SET 1,A (R355). -/
def exec_set_1_A (s : State) : Result :=
  .next ((s.setReg .a (setBit (s.reg .a) 1)).spend (.cb 0xCF) 8)

/-- SET 2,B (R355). -/
def exec_set_2_B (s : State) : Result :=
  .next ((s.setReg .b (setBit (s.reg .b) 2)).spend (.cb 0xD0) 8)

/-- SET 2,C (R355). -/
def exec_set_2_C (s : State) : Result :=
  .next ((s.setReg .c (setBit (s.reg .c) 2)).spend (.cb 0xD1) 8)

/-- SET 2,D (R355). -/
def exec_set_2_D (s : State) : Result :=
  .next ((s.setReg .d (setBit (s.reg .d) 2)).spend (.cb 0xD2) 8)

/-- SET 2,E (R355). -/
def exec_set_2_E (s : State) : Result :=
  .next ((s.setReg .e (setBit (s.reg .e) 2)).spend (.cb 0xD3) 8)

/-- SET 2,H (R355). -/
def exec_set_2_H (s : State) : Result :=
  .next ((s.setReg .h (setBit (s.reg .h) 2)).spend (.cb 0xD4) 8)

/-- SET 2,L (R355). -/
def exec_set_2_L (s : State) : Result :=
  .next ((s.setReg .l (setBit (s.reg .l) 2)).spend (.cb 0xD5) 8)

/-- SET 2,(HL) (R356). -/
def exec_set_2_atHL (s : State) : Result :=
  .next ((s.writeHL (setBit s.readHL 2)).spend (.cb 0xD6) 16)

/-- SET 2,A (R355). -/
def exec_set_2_A (s : State) : Result :=
  .next ((s.setReg .a (setBit (s.reg .a) 2)).spend (.cb 0xD7) 8)

/-- SET 3,B (R355). -/
def exec_set_3_B (s : State) : Result :=
  .next ((s.setReg .b (setBit (s.reg .b) 3)).spend (.cb 0xD8) 8)

/-- SET 3,C (R355). -/
def exec_set_3_C (s : State) : Result :=
  .next ((s.setReg .c (setBit (s.reg .c) 3)).spend (.cb 0xD9) 8)

/-- SET 3,D (R355). -/
def exec_set_3_D (s : State) : Result :=
  .next ((s.setReg .d (setBit (s.reg .d) 3)).spend (.cb 0xDA) 8)

/-- SET 3,E (R355). -/
def exec_set_3_E (s : State) : Result :=
  .next ((s.setReg .e (setBit (s.reg .e) 3)).spend (.cb 0xDB) 8)

/-- SET 3,H (R355). -/
def exec_set_3_H (s : State) : Result :=
  .next ((s.setReg .h (setBit (s.reg .h) 3)).spend (.cb 0xDC) 8)

/-- SET 3,L (R355). -/
def exec_set_3_L (s : State) : Result :=
  .next ((s.setReg .l (setBit (s.reg .l) 3)).spend (.cb 0xDD) 8)

/-- SET 3,(HL) (R356). -/
def exec_set_3_atHL (s : State) : Result :=
  .next ((s.writeHL (setBit s.readHL 3)).spend (.cb 0xDE) 16)

/-- SET 3,A (R355). -/
def exec_set_3_A (s : State) : Result :=
  .next ((s.setReg .a (setBit (s.reg .a) 3)).spend (.cb 0xDF) 8)

/-- SET 4,B (R355). -/
def exec_set_4_B (s : State) : Result :=
  .next ((s.setReg .b (setBit (s.reg .b) 4)).spend (.cb 0xE0) 8)

/-- SET 4,C (R355). -/
def exec_set_4_C (s : State) : Result :=
  .next ((s.setReg .c (setBit (s.reg .c) 4)).spend (.cb 0xE1) 8)

/-- SET 4,D (R355). -/
def exec_set_4_D (s : State) : Result :=
  .next ((s.setReg .d (setBit (s.reg .d) 4)).spend (.cb 0xE2) 8)

/-- SET 4,E (R355). -/
def exec_set_4_E (s : State) : Result :=
  .next ((s.setReg .e (setBit (s.reg .e) 4)).spend (.cb 0xE3) 8)

/-- SET 4,H (R355). -/
def exec_set_4_H (s : State) : Result :=
  .next ((s.setReg .h (setBit (s.reg .h) 4)).spend (.cb 0xE4) 8)

/-- SET 4,L (R355). -/
def exec_set_4_L (s : State) : Result :=
  .next ((s.setReg .l (setBit (s.reg .l) 4)).spend (.cb 0xE5) 8)

/-- SET 4,(HL) (R356). -/
def exec_set_4_atHL (s : State) : Result :=
  .next ((s.writeHL (setBit s.readHL 4)).spend (.cb 0xE6) 16)

/-- SET 4,A (R355). -/
def exec_set_4_A (s : State) : Result :=
  .next ((s.setReg .a (setBit (s.reg .a) 4)).spend (.cb 0xE7) 8)

/-- SET 5,B (R355). -/
def exec_set_5_B (s : State) : Result :=
  .next ((s.setReg .b (setBit (s.reg .b) 5)).spend (.cb 0xE8) 8)

/-- SET 5,C (R355). -/
def exec_set_5_C (s : State) : Result :=
  .next ((s.setReg .c (setBit (s.reg .c) 5)).spend (.cb 0xE9) 8)

/-- SET 5,D (R355). -/
def exec_set_5_D (s : State) : Result :=
  .next ((s.setReg .d (setBit (s.reg .d) 5)).spend (.cb 0xEA) 8)

/-- SET 5,E (R355). -/
def exec_set_5_E (s : State) : Result :=
  .next ((s.setReg .e (setBit (s.reg .e) 5)).spend (.cb 0xEB) 8)

/-- SET 5,H (R355). -/
def exec_set_5_H (s : State) : Result :=
  .next ((s.setReg .h (setBit (s.reg .h) 5)).spend (.cb 0xEC) 8)

/-- SET 5,L (R355). -/
def exec_set_5_L (s : State) : Result :=
  .next ((s.setReg .l (setBit (s.reg .l) 5)).spend (.cb 0xED) 8)

/-- SET 5,(HL) (R356). -/
def exec_set_5_atHL (s : State) : Result :=
  .next ((s.writeHL (setBit s.readHL 5)).spend (.cb 0xEE) 16)

/-- SET 5,A (R355). -/
def exec_set_5_A (s : State) : Result :=
  .next ((s.setReg .a (setBit (s.reg .a) 5)).spend (.cb 0xEF) 8)

/-- SET 6,B (R355). -/
def exec_set_6_B (s : State) : Result :=
  .next ((s.setReg .b (setBit (s.reg .b) 6)).spend (.cb 0xF0) 8)

/-- SET 6,C (R355). -/
def exec_set_6_C (s : State) : Result :=
  .next ((s.setReg .c (setBit (s.reg .c) 6)).spend (.cb 0xF1) 8)

/-- SET 6,D (R355). -/
def exec_set_6_D (s : State) : Result :=
  .next ((s.setReg .d (setBit (s.reg .d) 6)).spend (.cb 0xF2) 8)

/-- SET 6,E (R355). -/
def exec_set_6_E (s : State) : Result :=
  .next ((s.setReg .e (setBit (s.reg .e) 6)).spend (.cb 0xF3) 8)

/-- SET 6,H (R355). -/
def exec_set_6_H (s : State) : Result :=
  .next ((s.setReg .h (setBit (s.reg .h) 6)).spend (.cb 0xF4) 8)

/-- SET 6,L (R355). -/
def exec_set_6_L (s : State) : Result :=
  .next ((s.setReg .l (setBit (s.reg .l) 6)).spend (.cb 0xF5) 8)

/-- SET 6,(HL) (R356). -/
def exec_set_6_atHL (s : State) : Result :=
  .next ((s.writeHL (setBit s.readHL 6)).spend (.cb 0xF6) 16)

/-- SET 6,A (R355). -/
def exec_set_6_A (s : State) : Result :=
  .next ((s.setReg .a (setBit (s.reg .a) 6)).spend (.cb 0xF7) 8)

/-- SET 7,B (R355). -/
def exec_set_7_B (s : State) : Result :=
  .next ((s.setReg .b (setBit (s.reg .b) 7)).spend (.cb 0xF8) 8)

/-- SET 7,C (R355). -/
def exec_set_7_C (s : State) : Result :=
  .next ((s.setReg .c (setBit (s.reg .c) 7)).spend (.cb 0xF9) 8)

/-- SET 7,D (R355). -/
def exec_set_7_D (s : State) : Result :=
  .next ((s.setReg .d (setBit (s.reg .d) 7)).spend (.cb 0xFA) 8)

/-- SET 7,E (R355). -/
def exec_set_7_E (s : State) : Result :=
  .next ((s.setReg .e (setBit (s.reg .e) 7)).spend (.cb 0xFB) 8)

/-- SET 7,H (R355). -/
def exec_set_7_H (s : State) : Result :=
  .next ((s.setReg .h (setBit (s.reg .h) 7)).spend (.cb 0xFC) 8)

/-- SET 7,L (R355). -/
def exec_set_7_L (s : State) : Result :=
  .next ((s.setReg .l (setBit (s.reg .l) 7)).spend (.cb 0xFD) 8)

/-- SET 7,(HL) (R356). -/
def exec_set_7_atHL (s : State) : Result :=
  .next ((s.writeHL (setBit s.readHL 7)).spend (.cb 0xFE) 16)

/-- SET 7,A (R355). -/
def exec_set_7_A (s : State) : Result :=
  .next ((s.setReg .a (setBit (s.reg .a) 7)).spend (.cb 0xFF) 8)

end Sys2Proof.Machine
end

