-- ==== Sys2Proof/Machine/System.lean ====
section
/-! DEFINITION. HALT, STOP, DI, EI, NOP, the CB escape and the illegal bytes (47_system.md). PC already points past the encoding (00_scope.md R11). -/

namespace Sys2Proof.Machine

/-- The operand slot z of a CB byte, none for (HL) (R160). -/
def cbSlot (z : Nat) : Option Reg8 :=
  match z with
  | 0 => some .b
  | 1 => some .c
  | 2 => some .d
  | 3 => some .e
  | 4 => some .h
  | 5 => some .l
  | 6 => none
  | _ => some .a

/-- The operation y of a CB byte in group 0 (R160). -/
def cbShift (y : Nat) : ShiftOp :=
  match y with
  | 0 => .rlc
  | 1 => .rrc
  | 2 => .rl
  | 3 => .rr
  | 4 => .sla
  | 5 => .sra
  | 6 => .swap
  | _ => .srl

/-- `execute CB[op2]` from the fields x, y and z of the second byte (R160, R407), with the costs of R620. -/
def State.runCb (s : State) (op2 : Byte) : State :=
  let x := op2.toNat / 64
  let y := op2.toNat / 8 % 8
  match cbSlot (op2.toNat % 8) with
  | some r =>
    (if x = 0 then s.shiftReg (cbShift y) r
     else if x = 1 then s.bitTest y (s.reg r)
     else if x = 2 then s.setReg r (clearBit (s.reg r) y)
     else s.setReg r (setBit (s.reg r) y)).spend (.cb op2) 8
  | none =>
    if x = 0 then (s.shiftHLMem (cbShift y)).spend (.cb op2) 16
    else if x = 1 then (s.bitTest y s.readHL).spend (.cb op2) 12
    else if x = 2 then (s.writeHL (clearBit s.readHL y)).spend (.cb op2) 16
    else (s.writeHL (setBit s.readHL y)).spend (.cb op2) 16

/-- NOP (R406). -/
def exec_nop (s : State) : Result :=
  .next (s.spend (.base 0x00) 4)

/-- STOP (R402). -/
def exec_stop (_pad : Byte) (s : State) : Result :=
  .next (({ s with stopped := true }).spend (.base 0x10) 4)

/-- HALT (R401). -/
def exec_halt (s : State) : Result :=
  .next (({ s with halted := true }).spend (.base 0x76) 4)

/-- PREFIX CB (R407). -/
def exec_prefix_CB (op2 : Byte) (s : State) : Result :=
  .next (s.runCb op2)

/-- ILLEGAL_D3 (R408). -/
def exec_illegal_D3 (s : State) : Result :=
  .next (s.raiseUnimplemented 0xD3)

/-- ILLEGAL_DB (R408). -/
def exec_illegal_DB (s : State) : Result :=
  .next (s.raiseUnimplemented 0xDB)

/-- ILLEGAL_DD (R408). -/
def exec_illegal_DD (s : State) : Result :=
  .next (s.raiseUnimplemented 0xDD)

/-- ILLEGAL_E3 (R408). -/
def exec_illegal_E3 (s : State) : Result :=
  .next (s.raiseUnimplemented 0xE3)

/-- ILLEGAL_E4 (R408). -/
def exec_illegal_E4 (s : State) : Result :=
  .next (s.raiseUnimplemented 0xE4)

/-- ILLEGAL_EB (R408). -/
def exec_illegal_EB (s : State) : Result :=
  .next (s.raiseUnimplemented 0xEB)

/-- ILLEGAL_EC (R408). -/
def exec_illegal_EC (s : State) : Result :=
  .next (s.raiseUnimplemented 0xEC)

/-- ILLEGAL_ED (R408). -/
def exec_illegal_ED (s : State) : Result :=
  .next (s.raiseUnimplemented 0xED)

/-- DI (R403). -/
def exec_di (s : State) : Result :=
  .next (({ s with ime := false, imePending := false }).spend (.base 0xF3) 4)

/-- ILLEGAL_F4 (R408). -/
def exec_illegal_F4 (s : State) : Result :=
  .next (s.raiseUnimplemented 0xF4)

/-- EI (R404). -/
def exec_ei (s : State) : Result :=
  .next (({ s with imePending := true }).spend (.base 0xFB) 4)

/-- ILLEGAL_FC (R408). -/
def exec_illegal_FC (s : State) : Result :=
  .next (s.raiseUnimplemented 0xFC)

/-- ILLEGAL_FD (R408). -/
def exec_illegal_FD (s : State) : Result :=
  .next (s.raiseUnimplemented 0xFD)

end Sys2Proof.Machine
end

