-- ==== Sys2Proof/Machine/Interrupts.lean ====
section
/-! DEFINITION. Interrupt service (60_exceptions.md R512, R513, R516) and the EI delay (47_system.md R405). -/

namespace Sys2Proof.Machine

/-- The pending-and-enabled sources: `mem[0xFFFF] & mem[0xFF0F] & 0x1F` (R512). -/
def State.pendingIrqs (s : State) : Byte := s.memAt 0xFFFF &&& s.memAt 0xFF0F &&& 0x1F

/-- The lowest set bit of bits 4:0, which has priority (R516). -/
def lowestSource (pend : Byte) : Nat :=
  if getBit pend 0 then 0 else if getBit pend 1 then 1 else if getBit pend 2 then 2 else if getBit pend 3 then 3 else 4

/-- `Service()` (R513): a pending-and-enabled interrupt wakes the CPU whatever IME is, and is dispatched if IME = 1. -/
def State.service (s : State) : State :=
  if s.pendingIrqs = 0 then s
  else if s.ime then ({ s with halted := false }).dispatchInterrupt (lowestSource s.pendingIrqs) s.halted
  else { s with halted := false }

/-- After an instruction that is not DI, a pending EI takes effect (R405). -/
def State.applyEiDelay (s : State) (pendingBefore isDi : Bool) : State :=
  if pendingBefore && !isDi then { s with ime := true, imePending := false } else s

end Sys2Proof.Machine
end

