-- ==== Sys2Proof/Machine/Timer.lean ====
section
/-! DEFINITION. The divider and the timer (60_exceptions.md R530 to R532). -/

namespace Sys2Proof.Machine

/-- Part 1 (R530): one DIV increment for each whole 256 cycles in the accumulator, the remainder kept. -/
def State.timerDivider (s : State) (d : Nat) : State :=
  { s.pokeMem 0xFF04 (s.memAt 0xFF04 + BitVec.ofNat 8 ((s.divAcc + d) / 256)) with divAcc := (s.divAcc + d) % 256 }

/-- The threshold selected by TAC bits 1:0 (R531, R60). -/
def timerThreshold (tac : Byte) : Nat :=
  match getBit tac 1, getBit tac 0 with
  | false, false => 1024
  | false, true => 16
  | true, false => 64
  | true, true => 256

/-- One TIMA tick: increment, or on overflow reload from TMA and request the Timer interrupt (R531). -/
def State.timaTick (s : State) : State :=
  if s.memAt 0xFF05 = 0xFF then (s.pokeMem 0xFF05 (s.memAt 0xFF06)).requestInterrupt 2
  else s.pokeMem 0xFF05 (s.memAt 0xFF05 + 1)

/-- `n` ticks. -/
def State.timaTicks (s : State) : Nat → State
  | 0 => s
  | n + 1 => State.timaTicks s.timaTick n

/-- How many ticks an update makes: every threshold crossing, or at most one when `TIMER_MULTI_TICK` is false (R531, D28). -/
def ticksDue (multi : Bool) (acc thr : Nat) : Nat := if multi then acc / thr else min 1 (acc / thr)

/-- Part 2 (R531): while TAC bit 2 is 0, `timaAcc` keeps its value. -/
def State.timerCounter (s : State) (d : Nat) : State :=
  let tac := s.memAt 0xFF07
  if getBit tac 2 then
    let n := ticksDue s.cfg.timerMultiTick (s.timaAcc + d) (timerThreshold tac)
    { s.timaTicks n with timaAcc := s.timaAcc + d - n * timerThreshold tac }
  else s

/-- `TimerUpdate(d)`: the divider, then the counter. -/
def State.timerUpdate (s : State) (d : Nat) : State := (s.timerDivider d).timerCounter d

end Sys2Proof.Machine
end

