-- ==== Sys2Proof/Machine/Lcd.lean ====
section
/-! DEFINITION. The LCD controller (60_exceptions.md R540 to R547): display off, line end, mode, coincidence, and the rendering
of one line. Registers are read as the bytes of `mem` they are (10_state.md R61 to R69); VRAM and OAM by ReadByte (R543). -/

namespace Sys2Proof.Machine

/-- Bit `i` of LCDC (R61). -/
def State.lcdc (s : State) (i : Nat) : Bool := getBit (s.memAt 0xFF40) i

/-- Bit `i` of STAT (R62). -/
def State.stat (s : State) (i : Nat) : Bool := getBit (s.memAt 0xFF41) i

/-! ### Pixels -/

/-- `RGB(shade)`: the four fixed colours (R547). -/
def rgbOf (shade : Shade) : Rgb :=
  if shade = 0 then ⟨155, 188, 15⟩
  else if shade = 1 then ⟨139, 172, 15⟩
  else if shade = 2 then ⟨48, 98, 48⟩
  else ⟨15, 56, 15⟩

/-- The shade of colour index `ci` in a palette register: `(pal >> (2 * ci)) & 3` (R67, R68). -/
def paletteShade (pal : Byte) (ci : Nat) : Shade := (pal >>> (2 * ci)).setWidth 2

/-- `ColourIndex(lo, hi, bit)`: the lower-addressed plane gives the low bit (R543). -/
def colourIndex (lo hi : Byte) (i : Nat) : Nat := 2 * (getBit hi i).toNat + (getBit lo i).toNat

/-- The plane bytes of row `row` of the tile at `tileAddr`, by `TILE_PLANE_OFFSET` (R543, D34). -/
def State.tileRowBytes (s : State) (tileAddr row : Nat) : Byte × Byte :=
  match s.cfg.planeLayout with
  | .offset8 => (s.readByte (BitVec.ofNat 16 (tileAddr + row)), s.readByte (BitVec.ofNat 16 (tileAddr + row + 8)))
  | .interleaved => (s.readByte (BitVec.ofNat 16 (tileAddr + 2 * row)), s.readByte (BitVec.ofNat 16 (tileAddr + 2 * row + 1)))

/-- `BgTileAddr(idx)`: unsigned from 0x8000, or signed from 0x9000 (R543). -/
def State.bgTileAddr (s : State) (idx : Byte) : Nat :=
  if s.lcdc 4 then 0x8000 + 16 * idx.toNat else (0x9000 + 16 * idx.toInt).toNat

/-- The shade at pixel (px, py) of the 32 x 32 tile map at `base` (R543, R544). -/
def State.mapShade (s : State) (base px py : Nat) : Shade :=
  let idx := s.readByte (BitVec.ofNat 16 (base + 32 * (py / 8) + px / 8))
  let row := s.tileRowBytes (s.bgTileAddr idx) (py % 8)
  paletteShade (s.memAt 0xFF47) (colourIndex row.1 row.2 (7 - px % 8))

/-- The map base chosen by an LCDC bit (R61). -/
def mapBase (high : Bool) : Nat := if high then 0x9C00 else 0x9800

/-- The background shade at column `x` of line `ly` (R543); shade 0 when LCDC bit 0 is 0 (D37). -/
def State.bgShade (s : State) (ly x : Nat) : Shade :=
  if s.lcdc 0 then
    s.mapShade (mapBase (s.lcdc 3)) ((x + (s.memAt 0xFF43).toNat) % 256) ((ly + (s.memAt 0xFF42).toNat) % 256)
  else 0

/-- Whether the window covers column `x` of line `ly` (R544). -/
def State.windowCovers (s : State) (ly x : Nat) : Bool :=
  s.lcdc 5 && s.lcdc 0 && decide ((s.memAt 0xFF4A).toNat ≤ ly) && decide ((s.memAt 0xFF4B).toNat ≤ x + 7)

/-- The window's shade at column `x` of line `ly` (R544). -/
def State.windowShade (s : State) (ly x : Nat) : Shade :=
  s.mapShade (mapBase (s.lcdc 6)) (x + 7 - (s.memAt 0xFF4B).toNat) (ly - (s.memAt 0xFF4A).toNat)

/-- What the background and the window leave in `lineShade[x]` (R543, R544). -/
def State.layerShade (s : State) (ly x : Nat) : Shade :=
  if s.windowCovers ly x then s.windowShade ly x else s.bgShade ly x

/-- A sprite's part of one line: its left edge, the row's plane bytes, its attributes and its palette (R545). -/
structure SpriteRow where
  left    : Int
  lo      : Byte
  hi      : Byte
  attr    : Byte
  palette : Byte
deriving DecidableEq, Repr

/-- Sprite height by LCDC bit 2 (R545). -/
def State.spriteHeight (s : State) : Nat := if s.lcdc 2 then 16 else 8

/-- Byte `k` of OAM entry `i`, read by ReadByte (R545). -/
def State.oamByte (s : State) (i k : Nat) : Byte := s.readByte (BitVec.ofNat 16 (0xFE00 + 4 * i + k))

/-- The part of sprite `i` on line `ly`, if the line crosses it (R545). -/
def State.spriteRow (s : State) (ly i : Nat) : Option SpriteRow :=
  let top : Int := (s.oamByte i 0).toNat - 16
  let height := s.spriteHeight
  if top ≤ ly ∧ (ly : Int) < top + height then
    let attr := s.oamByte i 3
    let down := ((ly : Int) - top).toNat
    let row := if getBit attr 6 then height - 1 - down else down
    let tile := if height = 16 then (s.oamByte i 2 &&& 0xFE).toNat + row / 8 else (s.oamByte i 2).toNat
    let bytes := s.tileRowBytes (0x8000 + 16 * tile) (row % 8)
    some ⟨(s.oamByte i 1).toNat - 8, bytes.1, bytes.2, attr, if getBit attr 4 then s.memAt 0xFF49 else s.memAt 0xFF48⟩
  else none

/-- What a sprite row draws at column `x` over the background shade `under`, if anything: not outside its 8 columns, not colour
index 0, and not over a background shade other than 0 when attribute bit 7 is 1 (R545, R546). -/
def spritePixel (r : SpriteRow) (x : Nat) (under : Shade) : Option Shade :=
  let col : Int := (x : Int) - r.left
  if 0 ≤ col ∧ col ≤ 7 then
    let ci := colourIndex r.lo r.hi (if getBit r.attr 5 then col.toNat else 7 - col.toNat)
    if ci = 0 then none
    else if getBit r.attr 7 ∧ under ≠ 0 then none
    else some (paletteShade r.palette ci)
  else none

/-- The sprite rows on line `ly`, lowest OAM index first; none when LCDC bit 1 is 0 (R545). -/
def State.spriteRows (s : State) (ly : Nat) : List SpriteRow :=
  if s.lcdc 1 then (List.range 40).filterMap (fun i => s.spriteRow ly i) else []

/-- Sprites are drawn from OAM index 39 down to 0, so the lowest index drawn at a column stays (R545, R546). -/
def overlaySprites (rows : List SpriteRow) (x : Nat) (under : Shade) : Shade :=
  rows.foldr (fun r drawn => match spritePixel r x under with
    | some shade => shade
    | none => drawn) under

/-- `RenderLine(ly)` (R543 to R546): the line's background and window shades, then the line of the framebuffer. -/
def State.renderLine (s : State) (ly : Nat) : State :=
  let rows := s.spriteRows ly
  let shades := (List.range 160).map (fun x => s.layerShade ly x)
  let pixels := (List.range 160).map (fun x => rgbOf (overlaySprites rows x (s.layerShade ly x)))
  { s with lineShade := shades, framebuffer := s.framebuffer.set ly pixels }

/-! ### LcdUpdate -/

/-- Display off: mode 1, LY 0, accumulator 0, and no interrupt (R540, D32). -/
def State.lcdOff (s : State) : State :=
  { (s.pokeMem 0xFF41 (s.memAt 0xFF41 &&& 0xFC ||| 0x01)).pokeMem 0xFF44 0 with lcdAcc := 0 }

/-- `Present(framebuffer)` (R560, R541). -/
def State.presentFrame (s : State) : State := { s with outputs := .present s.framebuffer :: s.outputs }

/-- `Coincidence()` (R542): the request when LY == LYC is new and watched, then STAT bit 2. -/
def State.coincidence (s : State) : State :=
  let coin := decide (s.memAt 0xFF44 = s.memAt 0xFF45)
  let s1 := if coin && !s.stat 2 && s.stat 6 then s.requestInterrupt 1 else s
  s1.pokeMem 0xFF41 (if coin then setBit (s1.memAt 0xFF41) 2 else clearBit (s1.memAt 0xFF41) 2)

/-- LY after a line end: the next line, and 0 after 153 (R541). -/
def State.advanceLine (s : State) : State :=
  let s1 := s.pokeMem 0xFF44 (s.memAt 0xFF44 + 1)
  let s2 := if s1.memAt 0xFF44 = 144 then (s1.requestInterrupt 0).presentFrame else s1
  if (s2.memAt 0xFF44).toNat > 153 then s2.pokeMem 0xFF44 0 else s2

/-- The line end, at most one per update (R541). -/
def State.lcdLineEnd (s : State) : State :=
  if 456 ≤ s.lcdAcc then
    let s1 := if (s.memAt 0xFF44).toNat < 144 then s.renderLine (s.memAt 0xFF44).toNat else s
    let s2 := s1.advanceLine.coincidence
    { s2 with lcdAcc := s2.lcdAcc - 456 }
  else s

/-- The position in the line, by `LCD_MODE_POSITION` (R541, D30). Past 456 the subtraction stops at 0, which is mode 0 like
every position below 204 (log 23). -/
def State.linePosition (s : State) : Nat :=
  match s.cfg.modePosition with
  | .countdown => 456 - s.lcdAcc
  | .ascending => s.lcdAcc

/-- The mode of the current line and position (R541). -/
def State.lcdModeNow (s : State) : Byte :=
  if 144 ≤ (s.memAt 0xFF44).toNat then 1
  else if 376 ≤ s.linePosition then 2
  else if 204 ≤ s.linePosition then 3
  else 0

/-- Store the mode, and request the STAT interrupt on a watched entry into mode 0, 1 or 2 (R541). -/
def State.lcdMode (s : State) : State :=
  let old := s.memAt 0xFF41 &&& 0x03
  let new := s.lcdModeNow
  let s1 := s.pokeMem 0xFF41 (s.memAt 0xFF41 &&& 0xFC ||| new)
  if new ≠ old ∧ ((new = 0 ∧ s1.stat 3) ∨ (new = 1 ∧ s1.stat 4) ∨ (new = 2 ∧ s1.stat 5)) then s1.requestInterrupt 1
  else s1

/-- `LcdUpdate(d)` (R540, R541). -/
def State.lcdUpdate (s : State) (d : Nat) : State :=
  if s.lcdc 7 then (({ s with lcdAcc := s.lcdAcc + d }).lcdLineEnd).lcdMode else s.lcdOff

/-- Step 3 of R500: the devices take the step's delta, the timer first; the delta is used up. -/
def State.deviceStep (s : State) : State :=
  let d := s.stepCycles
  ((({ s with cycleCount := s.cycleCount + d, stepCycles := 0 }).timerUpdate d).lcdUpdate d)

end Sys2Proof.Machine
end

