-- ==== Sys2Proof/Machine/Cycle.lean ====
section
/-! DEFINITION. Fetching an instruction and the parts of one step (30_encoding.md R161; 60_exceptions.md R500), which
Machine/Step.lean calls. -/

namespace Sys2Proof.Machine

/-- The instruction at PC (R161). A read changes nothing (R98), so the three bytes are read at once and the instruction's own
length is taken (log 17). -/
def State.fetchInstr (s : State) : Instr :=
  decodeBytes (s.readByte s.pc) (s.readByte (s.pc + 1)) (s.readByte (s.pc + 2))

/-- The length of the instruction at PC (R162). -/
def State.fetchLength (s : State) : Nat := lengthOf (s.readByte s.pc)

/-- PC after every byte of the instruction at PC was fetched (R33). -/
def State.pastInstr (s : State) : State := { s with pc := s.pc + BitVec.ofNat 16 s.fetchLength }

/-- DI, after which a pending EI does not take effect (R405). -/
def isDi : Instr → Bool
  | .di => true
  | _ => false

/-- What follows the instruction in the step (R500): a fault ends the step, and its device phase does not run (R408); otherwise
the EI delay, the count of instructions, and the devices. -/
def State.finishInstr (s : State) (pendingBefore isDi : Bool) : State :=
  match s.fault with
  | some _ => { s with stepCycles := 0 }
  | none =>
    let s1 := s.applyEiDelay pendingBefore isDi
    ({ s1 with instructionsExecuted := s1.instructionsExecuted + 1 }).deviceStep

/-- Execute the instruction at PC and finish the step (R500 step 2). -/
def State.runInstr (s : State) : Result :=
  match exec s.fetchInstr s.pastInstr with
  | .next t => .next (t.finishInstr s.imePending (isDi s.fetchInstr))
  | .fault r => .fault r
  | .refused r => .refused r

/-- A halted step: no instruction, 4 cycles (R500, D22). -/
def State.idleStep (s : State) : State := (s.addCycles 4).deviceStep

/-- One enabled step: service, then an instruction or an idle (R500). -/
def State.enabledStep (s : State) : Result :=
  let s1 := ({ s with stepCycles := 0 }).service
  if s1.halted then .next s1.idleStep else s1.runInstr

/-- The step of R500: none is enabled after a fault or in a STOP hold (R42, R402, R10). -/
def State.stepBody (s : State) : Result :=
  match s.fault with
  | some r => .fault (.unimplementedOpcode r.opcode r.pc)
  | none => if s.stopped then .refused .stoppedHold else s.enabledStep

/-! ### Placing an instruction where the next step fetches (log 2, log 16) -/

/-- Put the byte that a fetch from `addr` reads: in `rom` or `ram` behind the bank windows, else in `mem`. -/
def State.placeByte (s : State) (addr : Word) (v : Byte) : State :=
  let a := addr.toNat
  if 0x4000 ≤ a ∧ a ≤ 0x7FFF then { s with rom := Memory.write zeroDefault s.rom (s.romOffset a) v }
  else if 0xA000 ≤ a ∧ a ≤ 0xBFFF then ({ s with ramEnabled := true }).pokeRam (s.ramOffset a) v
  else s.pokeMem a v

/-- Put bytes from `addr` on. -/
def State.placeBytes (s : State) : Word → List Byte → State
  | _, [] => s
  | addr, v :: vs => State.placeBytes (s.placeByte addr v) (addr + 1) vs

/-- Enable the next step and put the bytes where it fetches, after the interrupt service it begins with. -/
def State.placeForFetch (s : State) (bytes : List Byte) : State :=
  let s1 := { s with fault := none, stopped := false, halted := false }
  s1.placeBytes s1.service.pc bytes

end Sys2Proof.Machine
end

