-- ==== Sys2Proof/Machine/Step.lean ====
section
/-! DEFINITION. One step of the machine (60_exceptions.md R500), and placing an instruction for the next step. -/

namespace Sys2Proof.Machine

/-- One step (R500). -/
def step (s : State) : Host.Outcome State Fault Refusal := s.stepBody

/-- `s` with the table word `w` where the next step fetches its instruction (log 2, log 16). -/
def State.withFetchWord (s : State) (nbits w : Nat) : State := s.placeForFetch (tableBytes nbits w)

end Sys2Proof.Machine
end

