-- ==== Sys2Proof/Machine/Interactions.lean ====
section
/-! DEFINITION. The host's interactions (60_exceptions.md R550, R560, R561; 70_reset_and_hazards.md R600 to R602). Each happens
between steps (log 22); Present and SerialOut are outputs and stand in `outputs`. -/

namespace Sys2Proof.Machine

/-- Why a host interaction fails: recoverable, with no state change (R560, R601, U3). DESIGN CHOICE (log 24): the spec gives no
error codes and leaves the host's result type to the model (91_not_in_source.md), so these names and the type byte are the
model's. -/
inductive HostFailure
  | fileMissing
  | unsupportedController (cartType : Byte)
  | noBattery
deriving DecidableEq, Repr

/-- What LoadBatteryRam and LoadState answer: the state they leave, or a failure that changes nothing (R560; the type: log 24). -/
inductive HostReply
  | done (s : State)
  | failed (why : HostFailure)
deriving DecidableEq, Repr

/-- What LoadCartridge answers (R560, R601; the type: log 24): the loaded machine, with the failure of the LoadBatteryRam at that
load if it failed, or a failure that changes nothing. -/
inductive LoadReply
  | loaded (s : State) (battery : Option HostFailure)
  | failed (why : HostFailure)
deriving DecidableEq, Repr

/-- `KeyPress(b)` (R550): a new press sets the button, requests the joypad interrupt and ends a STOP hold. -/
def State.keyPress (s : State) (b : Fin 8) : State :=
  if getBit s.buttons b then s
  else { ({ s with buttons := setBit s.buttons b }).requestInterrupt 4 with stopped := false }

/-- `KeyRelease(b)` (R550). -/
def State.keyRelease (s : State) (b : Fin 8) : State := { s with buttons := clearBit s.buttons b }

/-! ### LoadCartridge (R601) -/

/-- The controller-type byte of an image, 0x00 for a short one (R601 step 2). -/
def imageType (image : List Byte) : Byte := if 0x0147 < image.length then image.getD 0x0147 0 else 0x00

/-- The 256 bytes that BOOT_ROM maps at 0000–00FF; a shorter image is filled with 0x00 and a longer one cut (log 19). -/
def bootBytes (boot : List Byte) : List Byte := (List.range 256).map (fun i => boot.getD i 0x00)

/-- The bytes 0000–7FFF of `mem` after a load (R601 steps 6 and 7). -/
def lowBytes (c : Config) (image : List Byte) : List Byte :=
  match c.bootRom with
  | none => image.take 0x8000
  | some boot => bootBytes boot ++ (image.take 0x8000).drop 256

/-- The general registers and PC of R77 with a boot ROM; without one, those of R76, as `State.reset` has them. -/
def State.startRegisters (s : State) (c : Config) : State :=
  match c.bootRom with
  | none => s
  | some _ => { s with a := 0, f := 0, b := 0, c := 0, d := 0, e := 0, h := 0, l := 0, sp := 0, pc := 0, bootMapped := true }

/-- Overwrite the bytes of `ram` from address `a` on. -/
def State.fillRam (s : State) : Nat → List Byte → State
  | _, [] => s
  | a, v :: vs => State.fillRam (s.pokeRam a v) (a + 1) vs

/-- `LoadBatteryRam(bytes)` (R560): `ram[0..n-1] <- bytes`, for the battery type only. `bytes` is none when the file is missing:
nothing changes (U3). More than 32 KiB is cut (log 20); which failure comes first is log 24. -/
def State.loadBatteryRam (s : State) (bytes : Option (List Byte)) : HostReply :=
  if s.cartType = 0x03 then
    match bytes with
    | none => .failed .fileMissing
    | some l => .done (s.fillRam 0 (l.take 0x8000))
  else .failed .noBattery

/-- The machine with the image inserted, before any battery RAM (R601 steps 3 to 8). `ram` is all 0x00. The parameters stay. -/
def State.insertCartridge (s : State) (image : List Byte) : State :=
  { State.reset.startRegisters s.cfg with
    cfg := s.cfg
    rom := Memory.ofBytes zeroDefault 0 (image.take 0x200000)
    mem := Memory.ofBytes (memDefault s.cfg) 0 (lowBytes s.cfg image)
    cartType := imageType image }

/-- LoadBatteryRam at the load (R560, R601 step 4). Where it fails the load stands, with `ram` zero (U3). -/
def State.withBattery (s : State) (battery : Option (List Byte)) : LoadReply :=
  match s.loadBatteryRam battery with
  | .done t => .loaded t none
  | .failed why => .loaded s (some why)

/-- `LoadCartridge(image)`, the only reset (R600, R601). `image` is none when the file is missing, `battery` when the host supplies
no battery RAM. -/
def State.loadCartridge (s : State) (image : Option (List Byte)) (battery : Option (List Byte)) : LoadReply :=
  match image with
  | none => .failed .fileMissing
  | some bytes =>
    if (imageType bytes).toNat > 0x03 then .failed (.unsupportedController (imageType bytes))
    else (s.insertCartridge bytes).withBattery battery

/-- `SaveBatteryRam` (R560): the bytes of `ram`, for the battery type only; nothing changes. None where nothing is written (log 24). -/
def State.saveBatteryRam (s : State) : Option (List Byte) :=
  if s.cartType = 0x03 then some ((List.range 0x8000).map s.ramAt) else none

/-! ### Save states (R561) -/

/-- The register dump of R561, in its order: AF, BC, DE, HL, PC, SP, cycle count, pending-interrupt flag, halted, stopped,
instructions executed. -/
structure RegisterDump where
  af : Word
  bc : Word
  de : Word
  hl : Word
  pc : Word
  sp : Word
  cycleCount : Nat
  imePending : Bool
  halted : Bool
  stopped : Bool
  instructionsExecuted : Nat
deriving DecidableEq, Repr

/-- The snapshot of R561: its two artifacts, the memory image and the register dump. -/
structure Snapshot where
  image : List Byte
  registers : RegisterDump
deriving DecidableEq, Repr

/-- `SaveState` (R561): all 65536 bytes of `mem` and the listed registers; nothing changes. -/
def State.saveState (s : State) : Snapshot where
  image := (List.range 0x10000).map s.memAt
  registers := {
    af := s.af
    bc := s.bc
    de := s.de
    hl := s.hl
    pc := s.pc
    sp := s.sp
    cycleCount := s.cycleCount
    imePending := s.imePending
    halted := s.halted
    stopped := s.stopped
    instructionsExecuted := s.instructionsExecuted }

/-- What LoadState writes (R561): all the listed fields at once, F masked; every other field is unchanged. A dump of another
length: log 21. -/
def State.restored (s : State) (image : List Byte) (r : RegisterDump) : State :=
  { (((s.setAF r.af).setBC r.bc).setDE r.de).setHL r.hl with
    mem := Memory.ofBytes (memDefault s.cfg) 0 (image.take 0x10000)
    pc := r.pc
    sp := r.sp
    cycleCount := r.cycleCount
    imePending := r.imePending
    halted := r.halted
    stopped := r.stopped
    instructionsExecuted := r.instructionsExecuted }

/-- `LoadState(snapshot)` (R560, R561): a failure that changes nothing if either artifact is missing. -/
def State.loadState (s : State) (image : Option (List Byte)) (registers : Option RegisterDump) : HostReply :=
  match image, registers with
  | some bytes, some r => .done (s.restored bytes r)
  | none, _ => .failed .fileMissing
  | some _, none => .failed .fileMissing

/-- The checksum of 0x0134–0x014C that names the save file: the negated sum modulo 256 (20_memory.md R133). It affects no
state. -/
def State.headerChecksum (s : State) : Byte :=
  ((List.range 0x19).map (fun i => s.romAt (0x0134 + i))).foldl (fun sum v => sum - v) 0

end Sys2Proof.Machine
end

