-- ==== Sys2Proof/Safety.lean ====
section
/-! DEFINITION. What counts as a safe state and a safe run, in the terms the claims use (10_state.md; 60_exceptions.md R501,
R560). -/

namespace Sys2Proof.Machine

/-! ### Whether a step is enabled -/

/-- The terminal fault state (R42). -/
def State.Faulted (s : State) : Prop := s.fault ≠ none

/-- The STOP hold: no step until a KeyPress or a new load (R402, R10). -/
def State.Holding (s : State) : Prop := s.fault = none ∧ s.stopped = true

/-- A step is enabled (R500). -/
def State.Enabled (s : State) : Prop := s.fault = none ∧ s.stopped = false

/-! ### The invariant every step keeps, part by part -/

/-- The three memories keep their canonical form, inside the sizes of R44, R45 and R46. -/
structure State.MemoriesWf (s : State) : Prop where
  mem : Memory.wf (memDefault s.cfg) 0x10000 s.mem = true
  rom : Memory.wf zeroDefault 0x200000 s.rom = true
  ram : Memory.wf zeroDefault 0x8000 s.ram = true

/-- Echo RAM mirrors working RAM (R107). -/
def State.EchoMirrored (s : State) : Prop :=
  ∀ a, 0xC000 ≤ a → a ≤ 0xDDFF → s.memAt (a + 0x2000) = s.memAt a

/-- F bits 3:0 are 0 (R35). -/
def State.FlagsLowZero (s : State) : Prop := s.f &&& 0x0F = 0

/-- The bank number is never one of the four unreachable ones (R47, R120). -/
def State.BankReachable (s : State) : Prop := s.romBank ≠ 0x00 ∧ s.romBank ≠ 0x20 ∧ s.romBank ≠ 0x40 ∧ s.romBank ≠ 0x60

/-- Only the supported controllers, and no cartridge RAM without one (R601, R115). -/
def State.CartridgeSupported (s : State) : Prop :=
  s.cartType.toNat ≤ 0x03 ∧ (s.cartType = 0x00 → s.ramEnabled = false)

/-- LY is a line number (R64). -/
def State.LineInRange (s : State) : Prop := (s.memAt 0xFF44).toNat ≤ 153

/-- A pixel of the framebuffer: a fixed shade, or the black of a line never drawn (R547). -/
def legalPixel (p : Rgb) : Prop := p = ⟨0, 0, 0⟩ ∨ ∃ shade, p = rgbOf shade

/-- The framebuffer is 144 rows of 160 legal pixels (R50, R547). -/
def State.FramebufferLegal (s : State) : Prop :=
  s.framebuffer.length = 144 ∧ ∀ row ∈ s.framebuffer, row.length = 160 ∧ ∀ p ∈ row, legalPixel p

/-- The accumulators between steps: the divider's remainder, and with the default `CYCLE_TABLE` the line's (R49, R530, R541); no
cycle delta is left over (log 15). -/
structure State.AccumulatorsInRange (s : State) : Prop where
  div : s.divAcc < 256
  lcd : s.cfg.cycleTable = [] → s.lcdAcc < 456
  delta : s.stepCycles = 0

/-- The invariant of the machine between steps. -/
structure State.Inv (s : State) : Prop where
  memories : s.MemoriesWf
  echo : s.EchoMirrored
  flags : s.FlagsLowZero
  bank : s.BankReachable
  cartridge : s.CartridgeSupported
  line : s.LineInRange
  frame : s.FramebufferLegal
  accumulators : s.AccumulatorsInRange

/-! ### Runs -/

/-- What the host can do between steps that changes the state (R560); a failed interaction changes nothing. LoadBatteryRam happens
at a load only, and is part of that move (log 22). -/
inductive HostMove (s : State) : State → Prop
  | keyPress (b : Fin 8) : HostMove s (s.keyPress b)
  | keyRelease (b : Fin 8) : HostMove s (s.keyRelease b)
  | loadCartridge (image battery : Option (List Byte)) (t : State) (why : Option HostFailure)
      (h : s.loadCartridge image battery = .loaded t why) : HostMove s t
  | loadState (image : Option (List Byte)) (registers : Option RegisterDump) (t : State)
      (h : s.loadState image registers = .done t) : HostMove s t

/-- A run: steps, with host moves between them. -/
inductive Run : State → State → Prop
  | refl (s : State) : Run s s
  | step {s t u : State} (h : Run s t) (k : Machine.step t = .next u) : Run s u
  | host {s t u : State} (h : Run s t) (k : HostMove t u) : Run s u

/-- A run that reached `goal` without a fault: a claim names its own end, and no faulted state meets it (R501, D24). -/
def RunEndsAt (s : State) (goal : State → Prop) : Prop := ∃ t, Run s t ∧ goal t ∧ ¬ t.Faulted

end Sys2Proof.Machine
end

