-- ==== Sys2Proof/Certificates/Slice0/Obligations.lean ====
section
/-! DEFINITION. The statements about this model, each from the rules of `spec/` it names. The first half says, in the rules' own
integer arithmetic and apart from the model's operations, what the rules say; the second half states the obligations. -/

namespace Sys2Proof.Statements

open Sys2Proof.Machine

/-! ### Numbers, registers and flags as the rules write them (00_scope.md R7; 10_state.md R31, R34) -/

/-- The opcode byte `n`. -/
def opc (n : Nat) : Byte := BitVec.ofNat 8 n

/-- `v[7:0]`. -/
def loOf (w : Word) : Byte := BitVec.ofNat 8 (w.toNat % 256)

/-- `v[15:8]`. -/
def hiOf (w : Word) : Byte := BitVec.ofNat 8 (w.toNat / 256)

/-- `(hi << 8) | lo`. -/
def word (hi lo : Byte) : Word := BitVec.ofNat 16 (256 * hi.toNat + lo.toNat)

def bcOf (s : State) : Word := word s.b s.c
def deOf (s : State) : Word := word s.d s.e
def hlOf (s : State) : Word := word s.h s.l

/-- `0xFF00 + zext_16(n)`. -/
def page (n : Byte) : Word := BitVec.ofNat 16 (0xFF00 + n.toNat)

def zOf (s : State) : Bool := s.f.getLsbD 7
def nOf (s : State) : Bool := s.f.getLsbD 6
def hOf (s : State) : Bool := s.f.getLsbD 5
def cOf (s : State) : Bool := s.f.getLsbD 4

/-- The byte F that holds these four flags and 0 in bits 3:0 (R34, R35). -/
def fByte (z n h c : Bool) : Byte := BitVec.ofNat 8 (128 * z.toNat + 64 * n.toNat + 32 * h.toNat + 16 * c.toNat)

/-- The value of a register field (R163). -/
def code : Reg8 → Nat
  | .b => 0 | .c => 1 | .d => 2 | .e => 3 | .h => 4 | .l => 5 | .a => 7

/-- The value of the pair field rp (R164). -/
def pairCode : Pair → Nat
  | .bc => 0 | .de => 1 | .hl => 2 | .sp => 3

/-- The value of the pair field rp2 (R164). -/
def stackCode : StackPair → Nat
  | .bc => 0 | .de => 1 | .hl => 2 | .af => 3

/-- The value of the condition field (R165). -/
def condCode : Cond → Nat
  | .nz => 0 | .z => 1 | .nc => 2 | .c => 3

/-- The operation field of a CB byte in group 0 (R160). -/
def shiftCode : ShiftOp → Nat
  | .rlc => 0 | .rrc => 1 | .rl => 2 | .rr => 3 | .sla => 4 | .sra => 5 | .swap => 6 | .srl => 7

/-- `x[r]`. -/
def getReg (s : State) : Reg8 → Byte
  | .b => s.b | .c => s.c | .d => s.d | .e => s.e | .h => s.h | .l => s.l | .a => s.a

/-- `x[r] <- v`. -/
def putReg (s : State) (r : Reg8) (v : Byte) : State :=
  match r with
  | .b => { s with b := v }
  | .c => { s with c := v }
  | .d => { s with d := v }
  | .e => { s with e := v }
  | .h => { s with h := v }
  | .l => { s with l := v }
  | .a => { s with a := v }

/-- `x[rr]`. -/
def getPair (s : State) : Pair → Word
  | .bc => bcOf s | .de => deOf s | .hl => hlOf s | .sp => s.sp

/-- `x[rr] <- v`. -/
def putPair (s : State) (p : Pair) (v : Word) : State :=
  match p with
  | .bc => { s with b := hiOf v, c := loOf v }
  | .de => { s with d := hiOf v, e := loOf v }
  | .hl => { s with h := hiOf v, l := loOf v }
  | .sp => { s with sp := v }

/-- `x[qq]`; the low nibble of F reads as 0 (R35). -/
def getStack (s : State) : StackPair → Word
  | .bc => bcOf s | .de => deOf s | .hl => hlOf s | .af => word s.a (fByte (zOf s) (nOf s) (hOf s) (cOf s))

/-- `x[qq] <- v`; AF loads the four flags (R236). -/
def putStack (s : State) (q : StackPair) (v : Word) : State :=
  match q with
  | .bc => { s with b := hiOf v, c := loOf v }
  | .de => { s with d := hiOf v, e := loOf v }
  | .hl => { s with h := hiOf v, l := loOf v }
  | .af => { s with a := hiOf v, f := fByte (v.getLsbD 7) (v.getLsbD 6) (v.getLsbD 5) (v.getLsbD 4) }

/-- `Cond(cc)` (R370). -/
def condHolds (s : State) : Cond → Bool
  | .nz => !zOf s | .z => zOf s | .nc => !cOf s | .c => cOf s

/-- `t` with an instruction's cost added to the step's delta (R8): `n`, the rule's "Cycles" line, unless CYCLE_TABLE says
another (R6, R620). -/
def charge (k : CostKey) (n : Nat) (t : State) : State := { t with stepCycles := t.stepCycles + cycleCost t.cfg k n }

/-- `bytes` is an encoding of `i`, whatever follows it. -/
def encodes (i : Instr) (bytes : List Byte) : Prop := ∀ rest, decode (bytes ++ rest) = .ok (i, rest)

/-! ### The rows of the opcode table, by family -/

/-- LD r,r' (R201). -/
def ldRegReg : Reg8 → Reg8 → Instr
  | .b, .b => .ld_B_B | .b, .c => .ld_B_C | .b, .d => .ld_B_D | .b, .e => .ld_B_E | .b, .h => .ld_B_H | .b, .l => .ld_B_L
  | .b, .a => .ld_B_A | .c, .b => .ld_C_B | .c, .c => .ld_C_C | .c, .d => .ld_C_D | .c, .e => .ld_C_E | .c, .h => .ld_C_H
  | .c, .l => .ld_C_L | .c, .a => .ld_C_A | .d, .b => .ld_D_B | .d, .c => .ld_D_C | .d, .d => .ld_D_D | .d, .e => .ld_D_E
  | .d, .h => .ld_D_H | .d, .l => .ld_D_L | .d, .a => .ld_D_A | .e, .b => .ld_E_B | .e, .c => .ld_E_C | .e, .d => .ld_E_D
  | .e, .e => .ld_E_E | .e, .h => .ld_E_H | .e, .l => .ld_E_L | .e, .a => .ld_E_A | .h, .b => .ld_H_B | .h, .c => .ld_H_C
  | .h, .d => .ld_H_D | .h, .e => .ld_H_E | .h, .h => .ld_H_H | .h, .l => .ld_H_L | .h, .a => .ld_H_A | .l, .b => .ld_L_B
  | .l, .c => .ld_L_C | .l, .d => .ld_L_D | .l, .e => .ld_L_E | .l, .h => .ld_L_H | .l, .l => .ld_L_L | .l, .a => .ld_L_A
  | .a, .b => .ld_A_B | .a, .c => .ld_A_C | .a, .d => .ld_A_D | .a, .e => .ld_A_E | .a, .h => .ld_A_H | .a, .l => .ld_A_L
  | .a, .a => .ld_A_A

/-- LD r,n (R202). -/
def ldRegImm : Reg8 → Byte → Instr
  | .b => .ld_B_n | .c => .ld_C_n | .d => .ld_D_n | .e => .ld_E_n | .h => .ld_H_n | .l => .ld_L_n | .a => .ld_A_n

/-- LD r,(HL) (R203). -/
def ldRegMem : Reg8 → Instr
  | .b => .ld_B_atHL | .c => .ld_C_atHL | .d => .ld_D_atHL | .e => .ld_E_atHL | .h => .ld_H_atHL | .l => .ld_L_atHL
  | .a => .ld_A_atHL

/-- LD (HL),r (R204). -/
def ldMemReg : Reg8 → Instr
  | .b => .ld_atHL_B | .c => .ld_atHL_C | .d => .ld_atHL_D | .e => .ld_atHL_E | .h => .ld_atHL_H | .l => .ld_atHL_L
  | .a => .ld_atHL_A

/-- INC r (R275). -/
def incReg8 : Reg8 → Instr
  | .b => .inc_B | .c => .inc_C | .d => .inc_D | .e => .inc_E | .h => .inc_H | .l => .inc_L | .a => .inc_A

/-- DEC r (R277). -/
def decReg8 : Reg8 → Instr
  | .b => .dec_B | .c => .dec_C | .d => .dec_D | .e => .dec_E | .h => .dec_H | .l => .dec_L | .a => .dec_A

/-- The eight 8-bit operations on A, in the order of the table's y field (R163, R250). -/
inductive AluOp
  | add | adc | sub | sbc | and | xor | or | cp
deriving DecidableEq, Repr

/-- An 8-bit operation with a register (R251 to R272). -/
def aluReg : AluOp → Reg8 → Instr
  | .add, .b => .add_A_B | .add, .c => .add_A_C | .add, .d => .add_A_D | .add, .e => .add_A_E | .add, .h => .add_A_H
  | .add, .l => .add_A_L | .add, .a => .add_A_A | .adc, .b => .adc_A_B | .adc, .c => .adc_A_C | .adc, .d => .adc_A_D
  | .adc, .e => .adc_A_E | .adc, .h => .adc_A_H | .adc, .l => .adc_A_L | .adc, .a => .adc_A_A | .sub, .b => .sub_B
  | .sub, .c => .sub_C | .sub, .d => .sub_D | .sub, .e => .sub_E | .sub, .h => .sub_H | .sub, .l => .sub_L
  | .sub, .a => .sub_A | .sbc, .b => .sbc_A_B | .sbc, .c => .sbc_A_C | .sbc, .d => .sbc_A_D | .sbc, .e => .sbc_A_E
  | .sbc, .h => .sbc_A_H | .sbc, .l => .sbc_A_L | .sbc, .a => .sbc_A_A | .and, .b => .and_B | .and, .c => .and_C
  | .and, .d => .and_D | .and, .e => .and_E | .and, .h => .and_H | .and, .l => .and_L | .and, .a => .and_A
  | .xor, .b => .xor_B | .xor, .c => .xor_C | .xor, .d => .xor_D | .xor, .e => .xor_E | .xor, .h => .xor_H
  | .xor, .l => .xor_L | .xor, .a => .xor_A | .or, .b => .or_B | .or, .c => .or_C | .or, .d => .or_D | .or, .e => .or_E
  | .or, .h => .or_H | .or, .l => .or_L | .or, .a => .or_A | .cp, .b => .cp_B | .cp, .c => .cp_C | .cp, .d => .cp_D
  | .cp, .e => .cp_E | .cp, .h => .cp_H | .cp, .l => .cp_L | .cp, .a => .cp_A

/-- An 8-bit operation with the byte at HL (R252 to R273). -/
def aluMem : AluOp → Instr
  | .add => .add_A_atHL | .adc => .adc_A_atHL | .sub => .sub_atHL | .sbc => .sbc_A_atHL | .and => .and_atHL
  | .xor => .xor_atHL | .or => .or_atHL | .cp => .cp_atHL

/-- An 8-bit operation with an immediate (R253 to R274). -/
def aluImm : AluOp → Byte → Instr
  | .add => .add_A_n | .adc => .adc_A_n | .sub => .sub_n | .sbc => .sbc_A_n | .and => .and_n | .xor => .xor_n
  | .or => .or_n | .cp => .cp_n

/-- LD rr,nn (R231). -/
def ldPairImm : Pair → Word → Instr
  | .bc => .ld_BC_nn | .de => .ld_DE_nn | .hl => .ld_HL_nn | .sp => .ld_SP_nn

/-- INC rr (R302). -/
def incPair : Pair → Instr
  | .bc => .inc_BC | .de => .inc_DE | .hl => .inc_HL | .sp => .inc_SP

/-- DEC rr (R303). -/
def decPair : Pair → Instr
  | .bc => .dec_BC | .de => .dec_DE | .hl => .dec_HL | .sp => .dec_SP

/-- ADD HL,rr (R301). -/
def addHLPair : Pair → Instr
  | .bc => .add_HL_BC | .de => .add_HL_DE | .hl => .add_HL_HL | .sp => .add_HL_SP

/-- PUSH qq (R235). -/
def pushPair : StackPair → Instr
  | .bc => .push_BC | .de => .push_DE | .hl => .push_HL | .af => .push_AF

/-- POP qq (R236). -/
def popPair : StackPair → Instr
  | .bc => .pop_BC | .de => .pop_DE | .hl => .pop_HL | .af => .pop_AF

/-- JP cc,nn (R372). -/
def jpIf : Cond → Word → Instr
  | .nz => .jp_NZ_nn | .z => .jp_Z_nn | .nc => .jp_NC_nn | .c => .jp_C_nn

/-- JR cc,e (R375). -/
def jrIf : Cond → Byte → Instr
  | .nz => .jr_NZ_e | .z => .jr_Z_e | .nc => .jr_NC_e | .c => .jr_C_e

/-- CALL cc,nn (R377). -/
def callIf : Cond → Word → Instr
  | .nz => .call_NZ_nn | .z => .call_Z_nn | .nc => .call_NC_nn | .c => .call_C_nn

/-- RET cc (R379). -/
def retIf : Cond → Instr
  | .nz => .ret_NZ | .z => .ret_Z | .nc => .ret_NC | .c => .ret_C

/-- RST t (R381). -/
def rst : Fin 8 → Instr
  | 0 => .rst_00H | 1 => .rst_08H | 2 => .rst_10H | 3 => .rst_18H | 4 => .rst_20H | 5 => .rst_28H | 6 => .rst_30H
  | 7 => .rst_38H

/-- A CB rotate, shift or SWAP of a register (R325 to R339). -/
def shiftReg8 : ShiftOp → Reg8 → Instr
  | .rlc, .b => .rlc_B | .rlc, .c => .rlc_C | .rlc, .d => .rlc_D | .rlc, .e => .rlc_E | .rlc, .h => .rlc_H
  | .rlc, .l => .rlc_L | .rlc, .a => .rlc_A | .rrc, .b => .rrc_B | .rrc, .c => .rrc_C | .rrc, .d => .rrc_D
  | .rrc, .e => .rrc_E | .rrc, .h => .rrc_H | .rrc, .l => .rrc_L | .rrc, .a => .rrc_A | .rl, .b => .rl_B | .rl, .c => .rl_C
  | .rl, .d => .rl_D | .rl, .e => .rl_E | .rl, .h => .rl_H | .rl, .l => .rl_L | .rl, .a => .rl_A | .rr, .b => .rr_B
  | .rr, .c => .rr_C | .rr, .d => .rr_D | .rr, .e => .rr_E | .rr, .h => .rr_H | .rr, .l => .rr_L | .rr, .a => .rr_A
  | .sla, .b => .sla_B | .sla, .c => .sla_C | .sla, .d => .sla_D | .sla, .e => .sla_E | .sla, .h => .sla_H
  | .sla, .l => .sla_L | .sla, .a => .sla_A | .sra, .b => .sra_B | .sra, .c => .sra_C | .sra, .d => .sra_D
  | .sra, .e => .sra_E | .sra, .h => .sra_H | .sra, .l => .sra_L | .sra, .a => .sra_A | .swap, .b => .swap_B
  | .swap, .c => .swap_C | .swap, .d => .swap_D | .swap, .e => .swap_E | .swap, .h => .swap_H | .swap, .l => .swap_L
  | .swap, .a => .swap_A | .srl, .b => .srl_B | .srl, .c => .srl_C | .srl, .d => .srl_D | .srl, .e => .srl_E
  | .srl, .h => .srl_H | .srl, .l => .srl_L | .srl, .a => .srl_A

/-- A CB rotate, shift or SWAP of the byte at HL (R326 to R340). -/
def shiftMem : ShiftOp → Instr
  | .rlc => .rlc_atHL | .rrc => .rrc_atHL | .rl => .rl_atHL | .rr => .rr_atHL | .sla => .sla_atHL | .sra => .sra_atHL
  | .swap => .swap_atHL | .srl => .srl_atHL

/-- BIT b,r (R351). -/
def bitReg8 : Fin 8 → Reg8 → Instr
  | 0, .b => .bit_0_B | 0, .c => .bit_0_C | 0, .d => .bit_0_D | 0, .e => .bit_0_E | 0, .h => .bit_0_H | 0, .l => .bit_0_L
  | 0, .a => .bit_0_A | 1, .b => .bit_1_B | 1, .c => .bit_1_C | 1, .d => .bit_1_D | 1, .e => .bit_1_E | 1, .h => .bit_1_H
  | 1, .l => .bit_1_L | 1, .a => .bit_1_A | 2, .b => .bit_2_B | 2, .c => .bit_2_C | 2, .d => .bit_2_D | 2, .e => .bit_2_E
  | 2, .h => .bit_2_H | 2, .l => .bit_2_L | 2, .a => .bit_2_A | 3, .b => .bit_3_B | 3, .c => .bit_3_C | 3, .d => .bit_3_D
  | 3, .e => .bit_3_E | 3, .h => .bit_3_H | 3, .l => .bit_3_L | 3, .a => .bit_3_A | 4, .b => .bit_4_B | 4, .c => .bit_4_C
  | 4, .d => .bit_4_D | 4, .e => .bit_4_E | 4, .h => .bit_4_H | 4, .l => .bit_4_L | 4, .a => .bit_4_A | 5, .b => .bit_5_B
  | 5, .c => .bit_5_C | 5, .d => .bit_5_D | 5, .e => .bit_5_E | 5, .h => .bit_5_H | 5, .l => .bit_5_L | 5, .a => .bit_5_A
  | 6, .b => .bit_6_B | 6, .c => .bit_6_C | 6, .d => .bit_6_D | 6, .e => .bit_6_E | 6, .h => .bit_6_H | 6, .l => .bit_6_L
  | 6, .a => .bit_6_A | 7, .b => .bit_7_B | 7, .c => .bit_7_C | 7, .d => .bit_7_D | 7, .e => .bit_7_E | 7, .h => .bit_7_H
  | 7, .l => .bit_7_L | 7, .a => .bit_7_A

/-- RES b,r (R353). -/
def resReg8 : Fin 8 → Reg8 → Instr
  | 0, .b => .res_0_B | 0, .c => .res_0_C | 0, .d => .res_0_D | 0, .e => .res_0_E | 0, .h => .res_0_H | 0, .l => .res_0_L
  | 0, .a => .res_0_A | 1, .b => .res_1_B | 1, .c => .res_1_C | 1, .d => .res_1_D | 1, .e => .res_1_E | 1, .h => .res_1_H
  | 1, .l => .res_1_L | 1, .a => .res_1_A | 2, .b => .res_2_B | 2, .c => .res_2_C | 2, .d => .res_2_D | 2, .e => .res_2_E
  | 2, .h => .res_2_H | 2, .l => .res_2_L | 2, .a => .res_2_A | 3, .b => .res_3_B | 3, .c => .res_3_C | 3, .d => .res_3_D
  | 3, .e => .res_3_E | 3, .h => .res_3_H | 3, .l => .res_3_L | 3, .a => .res_3_A | 4, .b => .res_4_B | 4, .c => .res_4_C
  | 4, .d => .res_4_D | 4, .e => .res_4_E | 4, .h => .res_4_H | 4, .l => .res_4_L | 4, .a => .res_4_A | 5, .b => .res_5_B
  | 5, .c => .res_5_C | 5, .d => .res_5_D | 5, .e => .res_5_E | 5, .h => .res_5_H | 5, .l => .res_5_L | 5, .a => .res_5_A
  | 6, .b => .res_6_B | 6, .c => .res_6_C | 6, .d => .res_6_D | 6, .e => .res_6_E | 6, .h => .res_6_H | 6, .l => .res_6_L
  | 6, .a => .res_6_A | 7, .b => .res_7_B | 7, .c => .res_7_C | 7, .d => .res_7_D | 7, .e => .res_7_E | 7, .h => .res_7_H
  | 7, .l => .res_7_L | 7, .a => .res_7_A

/-- SET b,r (R355). -/
def setReg8 : Fin 8 → Reg8 → Instr
  | 0, .b => .set_0_B | 0, .c => .set_0_C | 0, .d => .set_0_D | 0, .e => .set_0_E | 0, .h => .set_0_H | 0, .l => .set_0_L
  | 0, .a => .set_0_A | 1, .b => .set_1_B | 1, .c => .set_1_C | 1, .d => .set_1_D | 1, .e => .set_1_E | 1, .h => .set_1_H
  | 1, .l => .set_1_L | 1, .a => .set_1_A | 2, .b => .set_2_B | 2, .c => .set_2_C | 2, .d => .set_2_D | 2, .e => .set_2_E
  | 2, .h => .set_2_H | 2, .l => .set_2_L | 2, .a => .set_2_A | 3, .b => .set_3_B | 3, .c => .set_3_C | 3, .d => .set_3_D
  | 3, .e => .set_3_E | 3, .h => .set_3_H | 3, .l => .set_3_L | 3, .a => .set_3_A | 4, .b => .set_4_B | 4, .c => .set_4_C
  | 4, .d => .set_4_D | 4, .e => .set_4_E | 4, .h => .set_4_H | 4, .l => .set_4_L | 4, .a => .set_4_A | 5, .b => .set_5_B
  | 5, .c => .set_5_C | 5, .d => .set_5_D | 5, .e => .set_5_E | 5, .h => .set_5_H | 5, .l => .set_5_L | 5, .a => .set_5_A
  | 6, .b => .set_6_B | 6, .c => .set_6_C | 6, .d => .set_6_D | 6, .e => .set_6_E | 6, .h => .set_6_H | 6, .l => .set_6_L
  | 6, .a => .set_6_A | 7, .b => .set_7_B | 7, .c => .set_7_C | 7, .d => .set_7_D | 7, .e => .set_7_E | 7, .h => .set_7_H
  | 7, .l => .set_7_L | 7, .a => .set_7_A

/-- BIT b,(HL) (R352). -/
def bitMem : Fin 8 → Instr
  | 0 => .bit_0_atHL | 1 => .bit_1_atHL | 2 => .bit_2_atHL | 3 => .bit_3_atHL | 4 => .bit_4_atHL | 5 => .bit_5_atHL
  | 6 => .bit_6_atHL | 7 => .bit_7_atHL

/-- RES b,(HL) (R354). -/
def resMem : Fin 8 → Instr
  | 0 => .res_0_atHL | 1 => .res_1_atHL | 2 => .res_2_atHL | 3 => .res_3_atHL | 4 => .res_4_atHL | 5 => .res_5_atHL
  | 6 => .res_6_atHL | 7 => .res_7_atHL

/-- SET b,(HL) (R356). -/
def setMem : Fin 8 → Instr
  | 0 => .set_0_atHL | 1 => .set_1_atHL | 2 => .set_2_atHL | 3 => .set_3_atHL | 4 => .set_4_atHL | 5 => .set_5_atHL
  | 6 => .set_6_atHL | 7 => .set_7_atHL

/-! ### What the rules compute -/

/-- `A <- Add8(A, v, c)` (R250, R9). -/
def added (s : State) (v : Byte) (c : Nat) : State :=
  { s with
    a := BitVec.ofNat 8 (s.a.toNat + v.toNat + c)
    f := fByte (decide ((s.a.toNat + v.toNat + c) % 256 = 0)) false (decide (s.a.toNat % 16 + v.toNat % 16 + c > 0xF))
      (decide (s.a.toNat + v.toNat + c > 0xFF)) }

/-- `(A - v - c) mod 256`; `c` is 0 or 1. -/
def difference (s : State) (v : Byte) (c : Nat) : Nat := (s.a.toNat + 512 - v.toNat - c) % 256

/-- The flags of `Sub8(A, v, c)` (R250, R9). -/
def compared (s : State) (v : Byte) (c : Nat) : State :=
  { s with
    f := fByte (decide (difference s v c = 0)) true (decide (s.a.toNat % 16 < v.toNat % 16 + c)) (decide (s.a.toNat < v.toNat + c)) }

/-- `A <- Sub8(A, v, c)`. -/
def subtracted (s : State) (v : Byte) (c : Nat) : State := { compared s v c with a := BitVec.ofNat 8 (difference s v c) }

/-- A logical result, with H as given and N and C clear (R263, R266, R269). -/
def logical (s : State) (res : Byte) (h : Bool) : State := { s with a := res, f := fByte (decide (res.toNat = 0)) false h false }

/-- The flags of an increment from `old`, C kept (R275). -/
def incremented (s : State) (old : Byte) : State :=
  { s with f := fByte (decide ((old.toNat + 1) % 256 = 0)) false (decide (old.toNat % 16 = 15)) (cOf s) }

/-- The flags of a decrement from `old`, C kept (R277). -/
def decremented (s : State) (old : Byte) : State :=
  { s with f := fByte (decide (old.toNat = 1)) true (decide (old.toNat % 16 = 0)) (cOf s) }

/-- DAA in the rule's integer arithmetic (R279). -/
def decimalAdjusted (s : State) : State :=
  let high := if nOf s then cOf s else cOf s || decide (s.a.toNat > 0x99)
  let low := if nOf s then hOf s else hOf s || decide (s.a.toNat % 16 > 0x09)
  let adj := 0x60 * high.toNat + 0x06 * low.toNat
  let res := if nOf s then (s.a.toNat + 256 - adj) % 256 else (s.a.toNat + adj) % 256
  { s with a := BitVec.ofNat 8 res, f := fByte (decide (res = 0)) (nOf s) false high }

/-- `w + sext_16(e)` modulo 2^16 (R8). -/
def displaced (w : Word) (e : Byte) : Word := BitVec.ofInt 16 ((w.toNat : Int) + e.toInt)

/-- F after ADD SP,e and LD HL,SP+e (R234, R304). -/
def spFlags (s : State) (e : Byte) : Byte :=
  fByte false false (decide (s.sp.toNat % 16 + e.toNat % 16 > 0xF)) (decide (s.sp.toNat % 256 + e.toNat > 0xFF))

/-- `Push(v)` (R84). -/
def pushed (s : State) (v : Word) : State :=
  (({ s with sp := s.sp - 2 } : State).writeByte (s.sp - 1) (hiOf v)).writeByte (s.sp - 2) (loOf v)

/-- The value `Pop()` returns (R85). -/
def popWord (s : State) : Word := word (s.readByte (s.sp + 1)) (s.readByte s.sp)

/-- The result and the bit shifted out of a rotate, a shift or SWAP on `v` with carry-in `c` (R321 to R340). -/
def shifted (op : ShiftOp) (v : Byte) (c : Bool) : Byte × Bool :=
  let n := v.toNat
  match op with
  | .rlc => (BitVec.ofNat 8 (2 * n % 256 + n / 128), decide (n / 128 = 1))
  | .rrc => (BitVec.ofNat 8 (n / 2 + 128 * (n % 2)), decide (n % 2 = 1))
  | .rl => (BitVec.ofNat 8 (2 * n % 256 + c.toNat), decide (n / 128 = 1))
  | .rr => (BitVec.ofNat 8 (n / 2 + 128 * c.toNat), decide (n % 2 = 1))
  | .sla => (BitVec.ofNat 8 (2 * n % 256), decide (n / 128 = 1))
  | .sra => (BitVec.ofNat 8 (n / 2 + 128 * (n / 128)), decide (n % 2 = 1))
  | .swap => (BitVec.ofNat 8 (16 * (n % 16) + n / 16), false)
  | .srl => (BitVec.ofNat 8 (n / 2), decide (n % 2 = 1))

/-- `SetShiftFlags(res, out)` (R320). -/
def shiftFlagged (s : State) (r : Byte × Bool) : State := { s with f := fByte (decide (r.1.toNat = 0)) false false r.2 }

/-- An accumulator rotate, with Z as ACC_ROTATE_Z says (R320). -/
def accRotated (s : State) (op : ShiftOp) : State :=
  let r := shifted op s.a (cOf s)
  { s with
    a := r.1
    f := fByte (match s.cfg.accRotateZ with
      | .clear => false
      | .preserve => zOf s) false false r.2 }

/-- `v & ~(1 << b)`. -/
def bitCleared (v : Byte) (b : Nat) : Byte := BitVec.ofNat 8 (v.toNat - 2 ^ b * (v.toNat / 2 ^ b % 2))

/-- `v | (1 << b)`. -/
def bitSet (v : Byte) (b : Nat) : Byte := BitVec.ofNat 8 (v.toNat + 2 ^ b * (1 - v.toNat / 2 ^ b % 2))

/-- The flags of BIT on `v` (R351). -/
def bitTested (s : State) (v : Byte) (b : Nat) : State :=
  { s with f := fByte (decide (v.toNat / 2 ^ b % 2 = 0)) false true (cOf s) }

/-- Run one instruction `n` times, PC apart. -/
def times (i : Instr) : Nat → State → Result
  | 0, s => .next s
  | n + 1, s => match exec i s with
    | .next t => times i n t
    | r => r

/-- The addresses that read back what is written to them: VRAM, working and echo RAM, OAM, HRAM and IE, and cartridge RAM while it
is enabled (R75, R93, R96, R105). -/
def readsBack (s : State) (a : Word) : Prop :=
  (0x8000 ≤ a.toNat ∧ a.toNat ≤ 0x9FFF) ∨ (0xC000 ≤ a.toNat ∧ a.toNat ≤ 0xFE9F) ∨ 0xFF80 ≤ a.toNat ∨
  (0xA000 ≤ a.toNat ∧ a.toNat ≤ 0xBFFF ∧ s.ramEnabled = true)

/-! ### What an instruction stores, and where a store shows -/

/-- The two bus writes of `Push(v)` (R84). -/
def pushStores (s : State) (v : Word) : List (Word × Byte) := [(s.sp - 1, hiOf v), (s.sp - 2, loOf v)]

/-- The bus writes of an instruction, in order: address and byte, from the state it executes in (files 40 to 46). -/
def storesOf (i : Instr) (s : State) : List (Word × Byte) :=
  match i with
  | .ld_atHL_B => [(hlOf s, s.b)]
  | .ld_atHL_C => [(hlOf s, s.c)]
  | .ld_atHL_D => [(hlOf s, s.d)]
  | .ld_atHL_E => [(hlOf s, s.e)]
  | .ld_atHL_H => [(hlOf s, s.h)]
  | .ld_atHL_L => [(hlOf s, s.l)]
  | .ld_atHL_A => [(hlOf s, s.a)]
  | .ld_atHL_n n => [(hlOf s, n)]
  | .ld_atBC_A => [(bcOf s, s.a)]
  | .ld_atDE_A => [(deOf s, s.a)]
  | .ld_atnn_A nn => [(nn, s.a)]
  | .ldh_atn_A n => [(page n, s.a)]
  | .ld_atC_A => [(page s.c, s.a)]
  | .ld_atHLi_A => [(hlOf s, s.a)]
  | .ld_atHLd_A => [(hlOf s, s.a)]
  | .ld_atnn_SP nn => [(nn, loOf s.sp), (nn + 1, hiOf s.sp)]
  | .inc_atHL => [(hlOf s, s.readByte (hlOf s) + 1)]
  | .dec_atHL => [(hlOf s, s.readByte (hlOf s) - 1)]
  | .push_BC => pushStores s (getStack s .bc)
  | .push_DE => pushStores s (getStack s .de)
  | .push_HL => pushStores s (getStack s .hl)
  | .push_AF => pushStores s (getStack s .af)
  | .call_nn _ => pushStores s s.pc
  | .call_NZ_nn _ => if condHolds s .nz then pushStores s s.pc else []
  | .call_Z_nn _ => if condHolds s .z then pushStores s s.pc else []
  | .call_NC_nn _ => if condHolds s .nc then pushStores s s.pc else []
  | .call_C_nn _ => if condHolds s .c then pushStores s s.pc else []
  | .rst_00H => pushStores s s.pc
  | .rst_08H => pushStores s s.pc
  | .rst_10H => pushStores s s.pc
  | .rst_18H => pushStores s s.pc
  | .rst_20H => pushStores s s.pc
  | .rst_28H => pushStores s s.pc
  | .rst_30H => pushStores s s.pc
  | .rst_38H => pushStores s s.pc
  | .rlc_atHL => [(hlOf s, (shifted .rlc (s.readByte (hlOf s)) (cOf s)).1)]
  | .rrc_atHL => [(hlOf s, (shifted .rrc (s.readByte (hlOf s)) (cOf s)).1)]
  | .rl_atHL => [(hlOf s, (shifted .rl (s.readByte (hlOf s)) (cOf s)).1)]
  | .rr_atHL => [(hlOf s, (shifted .rr (s.readByte (hlOf s)) (cOf s)).1)]
  | .sla_atHL => [(hlOf s, (shifted .sla (s.readByte (hlOf s)) (cOf s)).1)]
  | .sra_atHL => [(hlOf s, (shifted .sra (s.readByte (hlOf s)) (cOf s)).1)]
  | .swap_atHL => [(hlOf s, (shifted .swap (s.readByte (hlOf s)) (cOf s)).1)]
  | .srl_atHL => [(hlOf s, (shifted .srl (s.readByte (hlOf s)) (cOf s)).1)]
  | .res_0_atHL => [(hlOf s, bitCleared (s.readByte (hlOf s)) 0)]
  | .res_1_atHL => [(hlOf s, bitCleared (s.readByte (hlOf s)) 1)]
  | .res_2_atHL => [(hlOf s, bitCleared (s.readByte (hlOf s)) 2)]
  | .res_3_atHL => [(hlOf s, bitCleared (s.readByte (hlOf s)) 3)]
  | .res_4_atHL => [(hlOf s, bitCleared (s.readByte (hlOf s)) 4)]
  | .res_5_atHL => [(hlOf s, bitCleared (s.readByte (hlOf s)) 5)]
  | .res_6_atHL => [(hlOf s, bitCleared (s.readByte (hlOf s)) 6)]
  | .res_7_atHL => [(hlOf s, bitCleared (s.readByte (hlOf s)) 7)]
  | .set_0_atHL => [(hlOf s, bitSet (s.readByte (hlOf s)) 0)]
  | .set_1_atHL => [(hlOf s, bitSet (s.readByte (hlOf s)) 1)]
  | .set_2_atHL => [(hlOf s, bitSet (s.readByte (hlOf s)) 2)]
  | .set_3_atHL => [(hlOf s, bitSet (s.readByte (hlOf s)) 3)]
  | .set_4_atHL => [(hlOf s, bitSet (s.readByte (hlOf s)) 4)]
  | .set_5_atHL => [(hlOf s, bitSet (s.readByte (hlOf s)) 5)]
  | .set_6_atHL => [(hlOf s, bitSet (s.readByte (hlOf s)) 6)]
  | .set_7_atHL => [(hlOf s, bitSet (s.readByte (hlOf s)) 7)]
  | _ => []

/-- The state after these bus writes. -/
def stored (l : List (Word × Byte)) (s : State) : State := l.foldl (fun t p => t.writeByte p.1 p.2) s

/-- `t` and `u` agree on everything but the registers, PC, SP, the four latches, `fault` and the cycle delta. -/
def SameOutsideCpu (t u : State) : Prop :=
  t.mem = u.mem ∧ t.rom = u.rom ∧ t.ram = u.ram ∧ t.cartType = u.cartType ∧ t.romBank = u.romBank ∧ t.ramBank = u.ramBank ∧
  t.ramEnabled = u.ramEnabled ∧ t.mbcMode = u.mbcMode ∧ t.bootMapped = u.bootMapped ∧ t.buttons = u.buttons ∧
  t.divAcc = u.divAcc ∧ t.timaAcc = u.timaAcc ∧ t.lcdAcc = u.lcdAcc ∧ t.framebuffer = u.framebuffer ∧
  t.lineShade = u.lineShade ∧ t.outputs = u.outputs ∧ t.cfg = u.cfg ∧ t.cycleCount = u.cycleCount ∧
  t.instructionsExecuted = u.instructionsExecuted

/-- The addresses whose reading a write of `v` to `x` can change (R100): the byte and its echo, OAM for a DMA, 0000–00FF for a
boot unmap, and for a write to 0000–5FFF the window whose bank or enable it selects. -/
def reaches (s : State) (x : Word) (v : Byte) (y : Word) : Prop :=
  let romWindow := 0x4000 ≤ y.toNat ∧ y.toNat ≤ 0x7FFF
  let ramWindow := 0xA000 ≤ y.toNat ∧ y.toNat ≤ 0xBFFF
  if x.toNat ≤ 0x7FFF then
    s.cartType ≠ 0x00 ∧
      ((x.toNat ≤ 0x1FFF ∧ ramWindow) ∨ (0x2000 ≤ x.toNat ∧ x.toNat ≤ 0x3FFF ∧ romWindow) ∨
       (0x4000 ≤ x.toNat ∧ x.toNat ≤ 0x5FFF ∧ (romWindow ∨ ramWindow)))
  else if 0xC000 ≤ x.toNat ∧ x.toNat ≤ 0xDDFF then y.toNat = x.toNat ∨ y.toNat = x.toNat + 0x2000
  else if 0xE000 ≤ x.toNat ∧ x.toNat ≤ 0xFDFF then y.toNat = x.toNat ∨ y.toNat = x.toNat - 0x2000
  else if (0xFEA0 ≤ x.toNat ∧ x.toNat ≤ 0xFEFF) ∨ x.toNat = 0xFF44 then False
  else if x.toNat = 0xFF46 then y.toNat = 0xFF46 ∨ (0xFE00 ≤ y.toNat ∧ y.toNat ≤ 0xFE9F)
  else if 0xFF4C ≤ x.toNat ∧ x.toNat ≤ 0xFF7F then y.toNat = x.toNat ∨ (v = 0x01 ∧ y.toNat < 0x100)
  else y.toNat = x.toNat

/-- `t` is `s` but for the bytes of `mem` at the addresses in `A`, which are now `v`. -/
def BytesBecome (A : Nat → Prop) (v : Byte) (s t : State) : Prop :=
  t = { s with mem := t.mem } ∧ (∀ x, A x → t.memAt x = v) ∧ ∀ x, ¬ A x → t.memAt x = s.memAt x

/-! ### The step -/

/-- The state after the interrupt service with which a step begins (R500 step 1). -/
def serviced (s : State) : State := ({ s with stepCycles := 0 } : State).service

/-- The bytes at PC decode to `i`. -/
def AtPc (u : State) (i : Instr) : Prop :=
  ∃ rest, decode [u.readByte u.pc, u.readByte (u.pc + 1), u.readByte (u.pc + 2)] = .ok (i, rest)

/-- `u` with PC past the encoding of `i` (R33). -/
def past (u : State) (i : Instr) : State := { u with pc := u.pc + BitVec.ofNat 16 (encode i).length }

/-- R500 step 3 (R502, D19): the step's delta goes to the cycle count, then to the timer, then to the LCD controller, and is used
up. The delta as a field is log 15. -/
def devices (t : State) : State :=
  (({ t with cycleCount := t.cycleCount + t.stepCycles, stepCycles := 0 } : State).timerUpdate t.stepCycles).lcdUpdate t.stepCycles

/-- What R500 does after the instruction `i` answered `t`: nothing more after a fault; else the EI delay, the count, and the
devices. -/
def after (u : State) (i : Instr) (t : State) : State :=
  if t.fault ≠ none then { t with stepCycles := 0 }
  else
    devices { t with
      ime := if u.imePending = true ∧ i ≠ .di then true else t.ime
      imePending := if u.imePending = true ∧ i ≠ .di then false else t.imePending
      instructionsExecuted := t.instructionsExecuted + 1 }

/-- The eleven illegal bytes and their rows (R170). -/
def illegal : List (Byte × Instr) :=
  [(0xD3, .illegal_D3), (0xDB, .illegal_DB), (0xDD, .illegal_DD), (0xE3, .illegal_E3), (0xE4, .illegal_E4),
   (0xEB, .illegal_EB),
   (0xEC, .illegal_EC), (0xED, .illegal_ED), (0xF4, .illegal_F4), (0xFC, .illegal_FC), (0xFD, .illegal_FD)]

/-- Words of the 8-bit loads, written out from the Encoding lines of file 40, with the instruction each stands for. -/
def load8Words : List (List Byte × Instr) :=
  [([0b01000001], .ld_B_C), ([0b00111110, 0x5A], .ld_A_n 0x5A), ([0b01111110], .ld_A_atHL), ([0b01110000], .ld_atHL_B),
   ([0b11101010, 0x34, 0x12], .ld_atnn_A 0x1234), ([0b11110000, 0x44], .ldh_A_atn 0x44), ([0b00100010], .ld_atHLi_A)]

/-- Words of the 16-bit loads, from file 41. -/
def load16Words : List (List Byte × Instr) :=
  [([0b00110001, 0xFE, 0xFF], .ld_SP_nn 0xFFFE), ([0b00001000, 0x00, 0xC1], .ld_atnn_SP 0xC100), ([0b11110101], .push_AF),
   ([0b11010001], .pop_DE), ([0b11111000, 0xFF], .ld_HL_SPe 0xFF)]

/-- Words of the arithmetic families, from files 42 and 43. -/
def arithmeticWords : List (List Byte × Instr) :=
  [([0b10001011], .adc_A_E), ([0b10110110], .or_atHL), ([0b11111110, 0x3C], .cp_n 0x3C), ([0b00101101], .dec_L),
   ([0b00111001], .add_HL_SP), ([0b11101000, 0x02], .add_SP_e 0x02)]

/-- Words of the rotates, the shifts and the single-bit instructions, from files 44 and 45. -/
def bitWords : List (List Byte × Instr) :=
  [([0b00010111], .rla), ([0xCB, 0b00110111], .swap_A), ([0xCB, 0b00111110], .srl_atHL), ([0xCB, 0b01111100], .bit_7_H),
   ([0xCB, 0b10011110], .res_3_atHL), ([0xCB, 0b11011111], .set_3_A)]

/-- Words of the control and system instructions, from files 46 and 47. -/
def controlWords : List (List Byte × Instr) :=
  [([0b00100000, 0xFC], .jr_NZ_e 0xFC), ([0b11000011, 0x50, 0x01], .jp_nn 0x0150),
   ([0b11010100, 0x34, 0x12], .call_NC_nn 0x1234), ([0b11011001], .reti), ([0b11101111], .rst_28H), ([0b01110110], .halt),
   ([0x10, 0x00], .stop 0x00), ([0b11111011], .ei), ([0xD3], .illegal_D3)]

/-- The first bytes of the three-byte instructions: those with a 16-bit immediate (R162, R168). -/
def threeBytes : List Nat :=
  [0x01, 0x11, 0x21, 0x31, 0x08, 0xEA, 0xFA, 0xC3, 0xC2, 0xCA, 0xD2, 0xDA, 0xCD, 0xC4, 0xCC, 0xD4, 0xDC]

/-- The first bytes of the two-byte instructions: those with n or e, STOP, and the CB prefix (R162, R168). -/
def twoBytes : List Nat :=
  [0x06, 0x0E, 0x16, 0x1E, 0x26, 0x2E, 0x3E, 0x36, 0xE0, 0xF0, 0x18, 0x20, 0x28, 0x30, 0x38, 0xE8, 0xF8] ++
  [0xC6, 0xCE, 0xD6, 0xDE, 0xE6, 0xEE, 0xF6, 0xFE, 0x10, 0xCB]

/-! ### The devices -/

/-- The remap of R120 on a bank number below 128. -/
def bankAfterRemap (n : Nat) : Nat := if n % 32 = 0 then n + 1 else n

/-- TIMA after `n` ticks from `x`, and whether it overflowed (R531). -/
def timaAfter (tma : Nat) : Nat → Nat → Nat × Bool
  | 0, x => (x, false)
  | n + 1, x => if x = 0xFF then ((timaAfter tma n tma).1, true) else timaAfter tma n (x + 1)

/-- The threshold of a TAC value (R531). -/
def threshold (tac : Byte) : Nat :=
  match tac.toNat % 4 with
  | 0 => 1024
  | 1 => 16
  | 2 => 64
  | _ => 256

/-- Bit `i` of the byte of `mem` at `a`. -/
def ioBit (s : State) (a i : Nat) : Bool := (s.memAt a).getLsbD i

/-- `n` calls of LcdUpdate(456). -/
def lineUpdates : Nat → State → State
  | 0, s => s
  | n + 1, s => State.lcdUpdate (lineUpdates n s) 456

/-- `TileRowBytes(tileAddr, row)` (R543). -/
def tileRow (s : State) (tileAddr row : Nat) : Byte × Byte :=
  if s.cfg.planeLayout = .offset8 then
    (s.readByte (BitVec.ofNat 16 (tileAddr + row)), s.readByte (BitVec.ofNat 16 (tileAddr + row + 8)))
  else (s.readByte (BitVec.ofNat 16 (tileAddr + 2 * row)), s.readByte (BitVec.ofNat 16 (tileAddr + 2 * row + 1)))

/-- `ColourIndex(lo, hi, bit)` (R543). -/
def pixelIndex (p : Byte × Byte) (i : Nat) : Nat := p.1.toNat / 2 ^ i % 2 + 2 * (p.2.toNat / 2 ^ i % 2)

/-- `(pal >> (2 * ci)) & 3` (R67). -/
def shadeIn (pal : Byte) (ci : Nat) : Nat := pal.toNat / 4 ^ ci % 4

/-- `BgTileAddr(idx)`: an index of 128 or more is the signed index less 256 (R543). -/
def tileAt (s : State) (idx : Byte) : Nat :=
  if ioBit s 0xFF40 4 = false ∧ idx.toNat < 128 then 0x9000 + 16 * idx.toNat else 0x8000 + 16 * idx.toNat

/-- The shade at (px, py) of the tile map at `base` (R543, R544). -/
def mapPixel (s : State) (base px py : Nat) : Nat :=
  shadeIn (s.memAt 0xFF47)
    (pixelIndex (tileRow s (tileAt s (s.readByte (BitVec.ofNat 16 (base + 32 * (py / 8) + px / 8)))) (py % 8)) (7 - px % 8))

/-- What the background and the window leave at column `x` of line `ly` (R543, R544). -/
def layerPixel (s : State) (ly x : Nat) : Nat :=
  let wx := (s.memAt 0xFF4B).toNat
  let wy := (s.memAt 0xFF4A).toNat
  if ioBit s 0xFF40 5 = true ∧ ioBit s 0xFF40 0 = true ∧ wy ≤ ly ∧ wx ≤ x + 7 then
    mapPixel s (if ioBit s 0xFF40 6 then 0x9C00 else 0x9800) (x + 7 - wx) (ly - wy)
  else if ioBit s 0xFF40 0 then
    mapPixel s (if ioBit s 0xFF40 3 then 0x9C00 else 0x9800) ((x + (s.memAt 0xFF43).toNat) % 256)
      ((ly + (s.memAt 0xFF42).toNat) % 256)
  else 0

/-- What sprite `i` draws at column `x` of line `ly`, if anything (R545, R546). -/
def spriteAt (s : State) (ly x i : Nat) : Option Nat :=
  let oam := fun k => s.readByte (BitVec.ofNat 16 (0xFE00 + 4 * i + k))
  let height := if ioBit s 0xFF40 2 then 16 else 8
  let y := (oam 0).toNat
  let left := (oam 1).toNat
  let attr := oam 3
  if y ≤ ly + 16 ∧ ly + 16 < y + height ∧ left ≤ x + 8 ∧ x + 8 < left + 8 then
    let row := if attr.getLsbD 6 then height - 1 - (ly + 16 - y) else ly + 16 - y
    let tile := if height = 16 then (oam 2).toNat / 2 * 2 + row / 8 else (oam 2).toNat
    let col := x + 8 - left
    let ci := pixelIndex (tileRow s (0x8000 + 16 * tile) (row % 8)) (if attr.getLsbD 5 then col else 7 - col)
    if ci = 0 ∨ (attr.getLsbD 7 = true ∧ layerPixel s ly x ≠ 0) then none
    else some (shadeIn (if attr.getLsbD 4 then s.memAt 0xFF49 else s.memAt 0xFF48) ci)
  else none

/-- The sprite pixel that wins at column `x` of line `ly`: that of the lowest OAM index (R545, R546). -/
def spritePixelOf (s : State) (ly x : Nat) : Option Nat :=
  if ioBit s 0xFF40 1 then (List.range 40).findSome? (fun i => spriteAt s ly x i) else none

/-- `RGB(shade)` (R547). -/
def colourOf (shade : Nat) : Rgb :=
  if shade = 0 then ⟨155, 188, 15⟩ else if shade = 1 then ⟨139, 172, 15⟩ else if shade = 2 then ⟨48, 98, 48⟩ else ⟨15, 56, 15⟩

/-- The parameters with another cycle table. -/
def withTable (s : State) (table : List (CostKey × Nat)) : State := { s with cfg := { s.cfg with cycleTable := table } }

/-- The hidden state of R78, but for the framebuffer. -/
def HiddenStateReset (t : State) : Prop :=
  t.ime = false ∧ t.imePending = false ∧ t.halted = false ∧ t.stopped = false ∧ t.fault = none ∧ t.cycleCount = 0 ∧
  t.instructionsExecuted = 0 ∧ t.divAcc = 0 ∧ t.timaAcc = 0 ∧ t.lcdAcc = 0 ∧ t.romBank = 1 ∧ t.ramBank = 0 ∧
  t.ramEnabled = false ∧ t.mbcMode = false ∧ t.buttons = 0x00

/-- The framebuffer of R78. -/
def FramebufferBlack (t : State) : Prop :=
  t.framebuffer.length = 144 ∧ ∀ row ∈ t.framebuffer, row.length = 160 ∧ ∀ p ∈ row, p = ⟨0x00, 0x00, 0x00⟩

/-- The I/O bytes that R76 names, with their values. -/
def ioTable : List (Nat × Byte) :=
  [(0xFF05, 0x00), (0xFF06, 0x00), (0xFF07, 0x00), (0xFF10, 0x80), (0xFF11, 0xBF), (0xFF12, 0xF3), (0xFF14, 0xBF),
   (0xFF16, 0x3F), (0xFF17, 0x00), (0xFF19, 0xBF), (0xFF1A, 0x7F), (0xFF1B, 0xFF)] ++
  [(0xFF1C, 0x9F), (0xFF1E, 0xBF), (0xFF20, 0xFF), (0xFF21, 0x00), (0xFF22, 0x00), (0xFF23, 0xBF), (0xFF24, 0x77),
   (0xFF25, 0xF3), (0xFF26, 0xF1), (0xFF40, 0x91), (0xFF42, 0x00), (0xFF43, 0x00)] ++
  [(0xFF45, 0x00), (0xFF47, 0xFC), (0xFF48, 0xFF), (0xFF49, 0xFF), (0xFF4A, 0x00), (0xFF4B, 0x00), (0xFFFF, 0x00)]

/-- The registers of R76. -/
def StartRegisters (t : State) : Prop :=
  t.a = 0x01 ∧ t.f = 0xB0 ∧ t.b = 0x00 ∧ t.c = 0x13 ∧ t.d = 0x00 ∧ t.e = 0xD8 ∧ t.h = 0x01 ∧ t.l = 0x4D ∧
  t.sp = 0xFFFE ∧ t.pc = 0x0100

/-- The registers of R77. -/
def BootRegisters (t : State) : Prop :=
  t.a = 0x00 ∧ t.f = 0x00 ∧ t.b = 0x00 ∧ t.c = 0x00 ∧ t.d = 0x00 ∧ t.e = 0x00 ∧ t.h = 0x00 ∧ t.l = 0x00 ∧
  t.sp = 0x0000 ∧ t.pc = 0x0000

end Sys2Proof.Statements

/-! ### The obligations -/

open Sys2Proof Sys2Proof.Machine Sys2Proof.Statements

/-- Tier 3. The round trip of R161, R166, R168 and R169, every operand at every value. That the eleven illegal rows are well-formed instructions (log 9) and that the escape row is not (log 10) are the model's choices. -/
def Obligations.DecodeOfEncode : Prop :=
  ∀ (i : Instr) (rest : List Byte), WellFormed i = true → decode (encode i ++ rest) = .ok (i, rest)

/-- Tier 3. The other direction: with R171, the encoding is a bijection between well-formed instructions and full encodings; that the eleven illegal bytes count as instructions is the model's choice (log 9). -/
def Obligations.EncodeOfDecoded : Prop :=
  ∀ (bytes : List Byte) (i : Instr) (rest : List Byte), decode bytes = .ok (i, rest) →
    WellFormed i = true ∧ encode i ++ rest = bytes

/-- Sanity: the bits are read right, one to seven words of every family; that 0xD3 decodes to a row is the model's choice (log 9). -/
def Obligations.SpecWordsDecode : Prop :=
  (∀ p ∈ load8Words, encodes p.2 p.1) ∧ (∀ p ∈ load16Words, encodes p.2 p.1) ∧ (∀ p ∈ arithmeticWords, encodes p.2 p.1) ∧
  (∀ p ∈ bitWords, encodes p.2 p.1) ∧ ∀ p ∈ controlWords, encodes p.2 p.1

/-- R162: the length is a function of the first byte. That every long enough byte list decodes is R171, which the spec derives and which lets decoding answer the fault instead: that the eleven illegal bytes decode as instructions, of one byte, is the model's choice (log 9). -/
def Obligations.LengthByFirstByte : Prop :=
  ∀ (b : Byte) (rest : List Byte),
    let len := if b.toNat ∈ threeBytes then 3 else if b.toNat ∈ twoBytes then 2 else 1
    (∀ i r, decode (b :: rest) = .ok (i, r) → rest.length + 1 = r.length + len) ∧
    (len ≤ rest.length + 1 → ∃ i r, decode (b :: rest) = .ok (i, r))

/-- R170, R408, R505. That the row is an instruction (log 9) and that exec answers a next state with fault set (log 8) are the model's choices: R10 gives a fault as an outcome of its own. PC is already past the byte, so its address is PC - 1. -/
def Obligations.IllegalOpcodes : Prop :=
  (∀ p ∈ illegal, encodes p.2 [p.1] ∧ ∀ s : State, exec p.2 s = .next { s with fault := some ⟨p.1, s.pc - 1⟩ }) ∧
  ∀ op2 : Byte, ∃ i, encodes i [0xCB, op2] ∧ ∀ p ∈ illegal, i ≠ p.2

/-- R407. The escape row itself is never what decode reads (log 10); its meaning goes by the fields x, y and z of R160, the CB rows by the map of R169. -/
def Obligations.PrefixCbRunsSelectedRow : Prop :=
  ∀ (s : State) (op2 : Byte), ∃ i t, encodes i [0xCB, op2] ∧ exec (.prefix_CB op2) s = .next t ∧ exec i s = .next t

/-- R201, R202. LD r,r leaves the state unchanged except cycles. -/
def Obligations.LoadRegister : Prop :=
  ∀ (s : State) (dst r : Reg8) (n : Byte),
    encodes (ldRegReg dst r) [opc (0x40 + 8 * code dst + code r)] ∧
    exec (ldRegReg dst r) s = .next (charge (.base (opc (0x40 + 8 * code dst + code r))) 4 (putReg s dst (getReg s r))) ∧
    encodes (ldRegImm dst n) [opc (0x06 + 8 * code dst), n] ∧
    exec (ldRegImm dst n) s = .next (charge (.base (opc (0x06 + 8 * code dst))) 8 (putReg s dst n))

/-- R203, R206, R207, R210, R212, R214, R216, R217, with the old HL as the address. -/
def Obligations.LoadFromMemory : Prop :=
  ∀ (s : State) (dst : Reg8) (n : Byte) (nn : Word),
    (encodes (ldRegMem dst) [opc (0x46 + 8 * code dst)] ∧
      exec (ldRegMem dst) s = .next (charge (.base (opc (0x46 + 8 * code dst))) 8 (putReg s dst (s.readByte (hlOf s))))) ∧
    (encodes .ld_A_atBC [0x0A] ∧ exec .ld_A_atBC s = .next (charge (.base 0x0A) 8 { s with a := s.readByte (bcOf s) })) ∧
    (encodes .ld_A_atDE [0x1A] ∧ exec .ld_A_atDE s = .next (charge (.base 0x1A) 8 { s with a := s.readByte (deOf s) })) ∧
    (encodes (.ld_A_atnn nn) [0xFA, loOf nn, hiOf nn] ∧
      exec (.ld_A_atnn nn) s = .next (charge (.base 0xFA) 16 { s with a := s.readByte nn })) ∧
    (encodes (.ldh_A_atn n) [0xF0, n] ∧
      exec (.ldh_A_atn n) s = .next (charge (.base 0xF0) 12 { s with a := s.readByte (page n) })) ∧
    (encodes .ld_A_atC [0xF2] ∧ exec .ld_A_atC s = .next (charge (.base 0xF2) 8 { s with a := s.readByte (page s.c) })) ∧
    (encodes .ld_A_atHLi [0x2A] ∧
      exec .ld_A_atHLi s = .next (charge (.base 0x2A) 8 (putPair { s with a := s.readByte (hlOf s) } .hl (hlOf s + 1)))) ∧
    (encodes .ld_A_atHLd [0x3A] ∧
      exec .ld_A_atHLd s = .next (charge (.base 0x3A) 8 (putPair { s with a := s.readByte (hlOf s) } .hl (hlOf s - 1))))

/-- R204, R205, R208, R209, R211, R213, R215, R218, R219. The write uses the old HL. -/
def Obligations.StoreToMemory : Prop :=
  ∀ (s : State) (r : Reg8) (n : Byte) (nn : Word),
    (encodes (ldMemReg r) [opc (0x70 + code r)] ∧
      exec (ldMemReg r) s = .next (charge (.base (opc (0x70 + code r))) 8 (s.writeByte (hlOf s) (getReg s r)))) ∧
    (encodes (.ld_atHL_n n) [0x36, n] ∧ exec (.ld_atHL_n n) s = .next (charge (.base 0x36) 12 (s.writeByte (hlOf s) n))) ∧
    (encodes .ld_atBC_A [0x02] ∧ exec .ld_atBC_A s = .next (charge (.base 0x02) 8 (s.writeByte (bcOf s) s.a))) ∧
    (encodes .ld_atDE_A [0x12] ∧ exec .ld_atDE_A s = .next (charge (.base 0x12) 8 (s.writeByte (deOf s) s.a))) ∧
    (encodes (.ld_atnn_A nn) [0xEA, loOf nn, hiOf nn] ∧
      exec (.ld_atnn_A nn) s = .next (charge (.base 0xEA) 16 (s.writeByte nn s.a))) ∧
    (encodes (.ldh_atn_A n) [0xE0, n] ∧ exec (.ldh_atn_A n) s = .next (charge (.base 0xE0) 12 (s.writeByte (page n) s.a))) ∧
    (encodes .ld_atC_A [0xE2] ∧ exec .ld_atC_A s = .next (charge (.base 0xE2) 8 (s.writeByte (page s.c) s.a))) ∧
    (encodes .ld_atHLi_A [0x22] ∧
      exec .ld_atHLi_A s = .next (charge (.base 0x22) 8 (putPair (s.writeByte (hlOf s) s.a) .hl (hlOf s + 1)))) ∧
    (encodes .ld_atHLd_A [0x32] ∧
      exec .ld_atHLd_A s = .next (charge (.base 0x32) 8 (putPair (s.writeByte (hlOf s) s.a) .hl (hlOf s - 1))))

/-- R231, R232, R233. -/
def Obligations.LoadPairAndSp : Prop :=
  ∀ (s : State) (p : Pair) (nn : Word),
    (encodes (ldPairImm p nn) [opc (0x01 + 16 * pairCode p), loOf nn, hiOf nn] ∧
      exec (ldPairImm p nn) s = .next (charge (.base (opc (0x01 + 16 * pairCode p))) 12 (putPair s p nn))) ∧
    (encodes .ld_SP_HL [0xF9] ∧ exec .ld_SP_HL s = .next (charge (.base 0xF9) 8 { s with sp := hlOf s })) ∧
    (encodes (.ld_atnn_SP nn) [0x08, loOf nn, hiOf nn] ∧
      exec (.ld_atnn_SP nn) s =
        .next (charge (.base 0x08) 20 ((s.writeByte nn (loOf s.sp)).writeByte (nn + 1) (hiOf s.sp))))

/-- R234, R304, in integer arithmetic. -/
def Obligations.SpPlusOffset : Prop :=
  ∀ (s : State) (e : Byte),
    (encodes (.ld_HL_SPe e) [0xF8, e] ∧
      exec (.ld_HL_SPe e) s = .next (charge (.base 0xF8) 12 { putPair s .hl (displaced s.sp e) with f := spFlags s e })) ∧
    (encodes (.add_SP_e e) [0xE8, e] ∧
      exec (.add_SP_e e) s = .next (charge (.base 0xE8) 16 { s with sp := displaced s.sp e, f := spFlags s e }))

/-- R84, R235. -/
def Obligations.PushPair : Prop :=
  ∀ (s : State) (q : StackPair),
    encodes (pushPair q) [opc (0xC5 + 16 * stackCode q)] ∧
    exec (pushPair q) s = .next (charge (.base (opc (0xC5 + 16 * stackCode q))) 16 (pushed s (getStack s q)))

/-- R85, R236. -/
def Obligations.PopPair : Prop :=
  ∀ (s : State) (q : StackPair),
    encodes (popPair q) [opc (0xC1 + 16 * stackCode q)] ∧
    exec (popPair q) s =
      .next (charge (.base (opc (0xC1 + 16 * stackCode q))) 12 (putStack { s with sp := s.sp + 2 } q (popWord s)))

/-- R251 to R256, in integer arithmetic, with both operands taken before A is written. -/
def Obligations.AddAndAdc : Prop :=
  ∀ (s : State) (r : Reg8) (n : Byte),
    (encodes (aluReg .add r) [opc (0x80 + code r)] ∧
      exec (aluReg .add r) s = .next (charge (.base (opc (0x80 + code r))) 4 (added s (getReg s r) 0))) ∧
    (encodes (aluMem .add) [0x86] ∧
      exec (aluMem .add) s = .next (charge (.base 0x86) 8 (added s (s.readByte (hlOf s)) 0))) ∧
    (encodes (aluImm .add n) [0xC6, n] ∧ exec (aluImm .add n) s = .next (charge (.base 0xC6) 8 (added s n 0))) ∧
    (encodes (aluReg .adc r) [opc (0x88 + code r)] ∧
      exec (aluReg .adc r) s = .next (charge (.base (opc (0x88 + code r))) 4 (added s (getReg s r) (cOf s).toNat))) ∧
    (encodes (aluMem .adc) [0x8E] ∧
      exec (aluMem .adc) s = .next (charge (.base 0x8E) 8 (added s (s.readByte (hlOf s)) (cOf s).toNat))) ∧
    (encodes (aluImm .adc n) [0xCE, n] ∧
      exec (aluImm .adc n) s = .next (charge (.base 0xCE) 8 (added s n (cOf s).toNat)))

/-- R257 to R262, in integer arithmetic. -/
def Obligations.SubAndSbc : Prop :=
  ∀ (s : State) (r : Reg8) (n : Byte),
    (encodes (aluReg .sub r) [opc (0x90 + code r)] ∧
      exec (aluReg .sub r) s = .next (charge (.base (opc (0x90 + code r))) 4 (subtracted s (getReg s r) 0))) ∧
    (encodes (aluMem .sub) [0x96] ∧
      exec (aluMem .sub) s = .next (charge (.base 0x96) 8 (subtracted s (s.readByte (hlOf s)) 0))) ∧
    (encodes (aluImm .sub n) [0xD6, n] ∧ exec (aluImm .sub n) s = .next (charge (.base 0xD6) 8 (subtracted s n 0))) ∧
    (encodes (aluReg .sbc r) [opc (0x98 + code r)] ∧
      exec (aluReg .sbc r) s = .next (charge (.base (opc (0x98 + code r))) 4 (subtracted s (getReg s r) (cOf s).toNat))) ∧
    (encodes (aluMem .sbc) [0x9E] ∧
      exec (aluMem .sbc) s = .next (charge (.base 0x9E) 8 (subtracted s (s.readByte (hlOf s)) (cOf s).toNat))) ∧
    (encodes (aluImm .sbc n) [0xDE, n] ∧
      exec (aluImm .sbc n) s = .next (charge (.base 0xDE) 8 (subtracted s n (cOf s).toNat)))

/-- R263 to R271. -/
def Obligations.AndXorOr : Prop :=
  ∀ (s : State) (r : Reg8) (n : Byte),
    (encodes (aluReg .and r) [opc (0xA0 + code r)] ∧
      exec (aluReg .and r) s = .next (charge (.base (opc (0xA0 + code r))) 4 (logical s (s.a &&& getReg s r) true))) ∧
    (encodes (aluMem .and) [0xA6] ∧
      exec (aluMem .and) s = .next (charge (.base 0xA6) 8 (logical s (s.a &&& s.readByte (hlOf s)) true))) ∧
    (encodes (aluImm .and n) [0xE6, n] ∧
      exec (aluImm .and n) s = .next (charge (.base 0xE6) 8 (logical s (s.a &&& n) true))) ∧
    (encodes (aluReg .xor r) [opc (0xA8 + code r)] ∧
      exec (aluReg .xor r) s = .next (charge (.base (opc (0xA8 + code r))) 4 (logical s (s.a ^^^ getReg s r) false))) ∧
    (encodes (aluMem .xor) [0xAE] ∧
      exec (aluMem .xor) s = .next (charge (.base 0xAE) 8 (logical s (s.a ^^^ s.readByte (hlOf s)) false))) ∧
    (encodes (aluImm .xor n) [0xEE, n] ∧
      exec (aluImm .xor n) s = .next (charge (.base 0xEE) 8 (logical s (s.a ^^^ n) false))) ∧
    (encodes (aluReg .or r) [opc (0xB0 + code r)] ∧
      exec (aluReg .or r) s = .next (charge (.base (opc (0xB0 + code r))) 4 (logical s (s.a ||| getReg s r) false))) ∧
    (encodes (aluMem .or) [0xB6] ∧
      exec (aluMem .or) s = .next (charge (.base 0xB6) 8 (logical s (s.a ||| s.readByte (hlOf s)) false))) ∧
    (encodes (aluImm .or n) [0xF6, n] ∧
      exec (aluImm .or n) s = .next (charge (.base 0xF6) 8 (logical s (s.a ||| n) false)))

/-- R272 to R274. -/
def Obligations.Compare : Prop :=
  ∀ (s : State) (r : Reg8) (n : Byte),
    (encodes (aluReg .cp r) [opc (0xB8 + code r)] ∧
      exec (aluReg .cp r) s = .next (charge (.base (opc (0xB8 + code r))) 4 (compared s (getReg s r) 0))) ∧
    (encodes (aluMem .cp) [0xBE] ∧
      exec (aluMem .cp) s = .next (charge (.base 0xBE) 8 (compared s (s.readByte (hlOf s)) 0))) ∧
    (encodes (aluImm .cp n) [0xFE, n] ∧ exec (aluImm .cp n) s = .next (charge (.base 0xFE) 8 (compared s n 0)))

/-- R275 to R278. -/
def Obligations.IncAndDec : Prop :=
  ∀ (s : State) (r : Reg8),
    (encodes (incReg8 r) [opc (0x04 + 8 * code r)] ∧
      exec (incReg8 r) s =
        .next (charge (.base (opc (0x04 + 8 * code r))) 4 (putReg (incremented s (getReg s r)) r (getReg s r + 1)))) ∧
    (encodes (decReg8 r) [opc (0x05 + 8 * code r)] ∧
      exec (decReg8 r) s =
        .next (charge (.base (opc (0x05 + 8 * code r))) 4 (putReg (decremented s (getReg s r)) r (getReg s r - 1)))) ∧
    (encodes .inc_atHL [0x34] ∧
      exec .inc_atHL s = .next (charge (.base 0x34) 12
        ((incremented s (s.readByte (hlOf s))).writeByte (hlOf s) (s.readByte (hlOf s) + 1)))) ∧
    (encodes .dec_atHL [0x35] ∧
      exec .dec_atHL s = .next (charge (.base 0x35) 12
        ((decremented s (s.readByte (hlOf s))).writeByte (hlOf s) (s.readByte (hlOf s) - 1))))

/-- R279, in integer arithmetic. -/
def Obligations.DecimalAdjust : Prop :=
  ∀ s : State, encodes .daa [0x27] ∧ exec .daa s = .next (charge (.base 0x27) 4 (decimalAdjusted s))

/-- R280 to R282. -/
def Obligations.ComplementAndCarry : Prop :=
  ∀ s : State,
    (encodes .cpl [0x2F] ∧ exec .cpl s =
      .next (charge (.base 0x2F) 4 { s with a := BitVec.ofNat 8 (0xFF - s.a.toNat), f := fByte (zOf s) true true (cOf s) })) ∧
    (encodes .scf [0x37] ∧ exec .scf s = .next (charge (.base 0x37) 4 { s with f := fByte (zOf s) false false true })) ∧
    (encodes .ccf [0x3F] ∧ exec .ccf s = .next (charge (.base 0x3F) 4 { s with f := fByte (zOf s) false false (!cOf s) }))

/-- R301 to R303. -/
def Obligations.Arithmetic16 : Prop :=
  ∀ (s : State) (p : Pair),
    (encodes (addHLPair p) [opc (0x09 + 16 * pairCode p)] ∧
      exec (addHLPair p) s = .next (charge (.base (opc (0x09 + 16 * pairCode p))) 8
        { putPair s .hl (BitVec.ofNat 16 ((hlOf s).toNat + (getPair s p).toNat)) with
          f := fByte (zOf s) false (decide ((hlOf s).toNat % 0x1000 + (getPair s p).toNat % 0x1000 > 0xFFF))
            (decide ((hlOf s).toNat + (getPair s p).toNat > 0xFFFF)) })) ∧
    (encodes (incPair p) [opc (0x03 + 16 * pairCode p)] ∧
      exec (incPair p) s = .next (charge (.base (opc (0x03 + 16 * pairCode p))) 8 (putPair s p (getPair s p + 1)))) ∧
    (encodes (decPair p) [opc (0x0B + 16 * pairCode p)] ∧
      exec (decPair p) s = .next (charge (.base (opc (0x0B + 16 * pairCode p))) 8 (putPair s p (getPair s p - 1))))

/-- R321 to R324; `accRotated` reads Z0* by R320. -/
def Obligations.AccumulatorRotates : Prop :=
  ∀ s : State,
    (encodes .rlca [0x07] ∧ exec .rlca s = .next (charge (.base 0x07) 4 (accRotated s .rlc))) ∧
    (encodes .rrca [0x0F] ∧ exec .rrca s = .next (charge (.base 0x0F) 4 (accRotated s .rrc))) ∧
    (encodes .rla [0x17] ∧ exec .rla s = .next (charge (.base 0x17) 4 (accRotated s .rl))) ∧
    (encodes .rra [0x1F] ∧ exec .rra s = .next (charge (.base 0x1F) 4 (accRotated s .rr)))

/-- R325, R327, R329, R331, R333, R335, R337, R339. -/
def Obligations.CbShiftsOfRegisters : Prop :=
  ∀ (s : State) (op : ShiftOp) (r : Reg8),
    encodes (shiftReg8 op r) [0xCB, opc (8 * shiftCode op + code r)] ∧
    exec (shiftReg8 op r) s = .next (charge (.cb (opc (8 * shiftCode op + code r))) 8
      (putReg (shiftFlagged s (shifted op (getReg s r) (cOf s))) r (shifted op (getReg s r) (cOf s)).1))

/-- R326, R328, R330, R332, R334, R336, R338, R340. -/
def Obligations.CbShiftsOfMemory : Prop :=
  ∀ (s : State) (op : ShiftOp),
    encodes (shiftMem op) [0xCB, opc (8 * shiftCode op + 6)] ∧
    exec (shiftMem op) s = .next (charge (.cb (opc (8 * shiftCode op + 6))) 16
      ((shiftFlagged s (shifted op (s.readByte (hlOf s)) (cOf s))).writeByte (hlOf s)
        (shifted op (s.readByte (hlOf s)) (cOf s)).1))

/-- R341, which the spec marks as derived from R321 to R332 (its restatement of the source's property, C4). -/
def Obligations.RotatesReturn : Prop :=
  ∀ (s : State) (r : Reg8),
    (∃ t, times (shiftReg8 .rlc r) 8 s = .next t ∧ getReg t r = getReg s r ∧ cOf t = (getReg s r).getLsbD 0) ∧
    (∃ t, times (shiftReg8 .rrc r) 8 s = .next t ∧ getReg t r = getReg s r ∧ cOf t = (getReg s r).getLsbD 7) ∧
    (∃ t, times .rlca 8 s = .next t ∧ t.a = s.a ∧ cOf t = s.a.getLsbD 0) ∧
    (∃ t, times .rrca 8 s = .next t ∧ t.a = s.a ∧ cOf t = s.a.getLsbD 7) ∧
    (∃ t, times (shiftReg8 .rl r) 9 s = .next t ∧ getReg t r = getReg s r ∧ cOf t = cOf s) ∧
    (∃ t, times (shiftReg8 .rr r) 9 s = .next t ∧ getReg t r = getReg s r ∧ cOf t = cOf s) ∧
    (∃ t, times .rla 9 s = .next t ∧ t.a = s.a ∧ cOf t = cOf s) ∧
    (∃ t, times .rra 9 s = .next t ∧ t.a = s.a ∧ cOf t = cOf s) ∧
    (readsBack s (hlOf s) →
      (∃ t, times (shiftMem .rlc) 8 s = .next t ∧ t.readByte (hlOf s) = s.readByte (hlOf s) ∧
        cOf t = (s.readByte (hlOf s)).getLsbD 0) ∧
      (∃ t, times (shiftMem .rrc) 8 s = .next t ∧ t.readByte (hlOf s) = s.readByte (hlOf s) ∧
        cOf t = (s.readByte (hlOf s)).getLsbD 7) ∧
      (∃ t, times (shiftMem .rl) 9 s = .next t ∧ t.readByte (hlOf s) = s.readByte (hlOf s) ∧ cOf t = cOf s) ∧
      (∃ t, times (shiftMem .rr) 9 s = .next t ∧ t.readByte (hlOf s) = s.readByte (hlOf s) ∧ cOf t = cOf s))

/-- R351, R352. -/
def Obligations.BitTests : Prop :=
  ∀ (s : State) (b : Fin 8) (r : Reg8),
    (encodes (bitReg8 b r) [0xCB, opc (0x40 + 8 * b + code r)] ∧
      exec (bitReg8 b r) s = .next (charge (.cb (opc (0x40 + 8 * b + code r))) 8 (bitTested s (getReg s r) b))) ∧
    (encodes (bitMem b) [0xCB, opc (0x46 + 8 * b)] ∧
      exec (bitMem b) s = .next (charge (.cb (opc (0x46 + 8 * b))) 12 (bitTested s (s.readByte (hlOf s)) b)))

/-- R353 to R356. -/
def Obligations.ResAndSet : Prop :=
  ∀ (s : State) (b : Fin 8) (r : Reg8),
    (encodes (resReg8 b r) [0xCB, opc (0x80 + 8 * b + code r)] ∧
      exec (resReg8 b r) s =
        .next (charge (.cb (opc (0x80 + 8 * b + code r))) 8 (putReg s r (bitCleared (getReg s r) b)))) ∧
    (encodes (resMem b) [0xCB, opc (0x86 + 8 * b)] ∧
      exec (resMem b) s =
        .next (charge (.cb (opc (0x86 + 8 * b))) 16 (s.writeByte (hlOf s) (bitCleared (s.readByte (hlOf s)) b)))) ∧
    (encodes (setReg8 b r) [0xCB, opc (0xC0 + 8 * b + code r)] ∧
      exec (setReg8 b r) s =
        .next (charge (.cb (opc (0xC0 + 8 * b + code r))) 8 (putReg s r (bitSet (getReg s r) b)))) ∧
    (encodes (setMem b) [0xCB, opc (0xC6 + 8 * b)] ∧
      exec (setMem b) s =
        .next (charge (.cb (opc (0xC6 + 8 * b))) 16 (s.writeByte (hlOf s) (bitSet (s.readByte (hlOf s)) b))))

/-- R371 to R375; PC is already past the encoding (R33). -/
def Obligations.Jumps : Prop :=
  ∀ (s : State) (cc : Cond) (e : Byte) (nn : Word),
    (encodes (.jp_nn nn) [0xC3, loOf nn, hiOf nn] ∧ exec (.jp_nn nn) s = .next (charge (.base 0xC3) 16 { s with pc := nn })) ∧
    (encodes .jp_HL [0xE9] ∧ exec .jp_HL s = .next (charge (.base 0xE9) 4 { s with pc := hlOf s })) ∧
    (encodes (.jr_e e) [0x18, e] ∧ exec (.jr_e e) s = .next (charge (.base 0x18) 12 { s with pc := displaced s.pc e })) ∧
    (encodes (jpIf cc nn) [opc (0xC2 + 8 * condCode cc), loOf nn, hiOf nn] ∧
      exec (jpIf cc nn) s = .next
        (if condHolds s cc then charge (.taken (opc (0xC2 + 8 * condCode cc))) 16 { s with pc := nn }
         else charge (.base (opc (0xC2 + 8 * condCode cc))) 12 s)) ∧
    (encodes (jrIf cc e) [opc (0x20 + 8 * condCode cc), e] ∧
      exec (jrIf cc e) s = .next
        (if condHolds s cc then charge (.taken (opc (0x20 + 8 * condCode cc))) 12 { s with pc := displaced s.pc e }
         else charge (.base (opc (0x20 + 8 * condCode cc))) 8 s))

/-- R376, R377, R381. -/
def Obligations.CallsAndRestarts : Prop :=
  ∀ (s : State) (cc : Cond) (nn : Word) (t : Fin 8),
    (encodes (.call_nn nn) [0xCD, loOf nn, hiOf nn] ∧
      exec (.call_nn nn) s = .next (charge (.base 0xCD) 24 { pushed s s.pc with pc := nn })) ∧
    (encodes (callIf cc nn) [opc (0xC4 + 8 * condCode cc), loOf nn, hiOf nn] ∧
      exec (callIf cc nn) s = .next
        (if condHolds s cc then charge (.taken (opc (0xC4 + 8 * condCode cc))) 24 { pushed s s.pc with pc := nn }
         else charge (.base (opc (0xC4 + 8 * condCode cc))) 12 s)) ∧
    (encodes (rst t) [opc (0xC7 + 8 * t)] ∧
      exec (rst t) s = .next (charge (.base (opc (0xC7 + 8 * t))) 16 { pushed s s.pc with pc := BitVec.ofNat 16 (8 * t) }))

/-- R378 to R380. RETI is the return from an interrupt. -/
def Obligations.Returns : Prop :=
  ∀ (s : State) (cc : Cond),
    (encodes .ret [0xC9] ∧ exec .ret s = .next (charge (.base 0xC9) 16 { s with pc := popWord s, sp := s.sp + 2 })) ∧
    (encodes (retIf cc) [opc (0xC0 + 8 * condCode cc)] ∧
      exec (retIf cc) s = .next
        (if condHolds s cc then charge (.taken (opc (0xC0 + 8 * condCode cc))) 20 { s with pc := popWord s, sp := s.sp + 2 }
         else charge (.base (opc (0xC0 + 8 * condCode cc))) 8 s)) ∧
    (encodes .reti [0xD9] ∧
      exec .reti s = .next (charge (.base 0xD9) 16 { s with pc := popWord s, sp := s.sp + 2, ime := true }))

/-- The effects of R401 to R404 and R406; StepOutcomes and EiDelay state their clauses about later steps. -/
def Obligations.SystemLatches : Prop :=
  ∀ (s : State) (pad : Byte),
    (encodes .nop [0x00] ∧ exec .nop s = .next (charge (.base 0x00) 4 s)) ∧
    (encodes .halt [0x76] ∧ exec .halt s = .next (charge (.base 0x76) 4 { s with halted := true })) ∧
    (encodes (.stop pad) [0x10, pad] ∧ exec (.stop pad) s = .next (charge (.base 0x10) 4 { s with stopped := true })) ∧
    (encodes .di [0xF3] ∧ exec .di s = .next (charge (.base 0xF3) 4 { s with ime := false, imePending := false })) ∧
    (encodes .ei [0xFB] ∧ exec .ei s = .next (charge (.base 0xFB) 4 { s with imePending := true }))

/-- R500, R502, D19, R161, R33; that the delta is a field of State is log 15. The per-instruction statements reach a run through this one. -/
def Obligations.StepRunsDecodedInstruction : Prop :=
  ∀ (s : State) (i : Instr), s.Enabled → (serviced s).halted = false → AtPc (serviced s) i →
    step s = match exec i (past (serviced s) i) with
      | .next t => .next (after (serviced s) i t)
      | .fault r => .fault r
      | .refused r => .refused r

/-- R500, R501, R10, R42, R402, R568. That a hold is answered as a refusal (log 7) and that an enabled step, also one that meets an illegal byte, always answers a next state (log 8) are the model's choices; the idle cost of 4 is the spec's own (D22). -/
def Obligations.StepOutcomes : Prop :=
  ∀ s : State,
    (∀ r, s.fault = some r → step s = .fault (.unimplementedOpcode r.opcode r.pc)) ∧
    (s.Holding → step s = .refused .stoppedHold) ∧
    (s.Enabled → (serviced s).halted = true →
      step s = .next (devices { serviced s with stepCycles := (serviced s).stepCycles + 4 }) ∧
      ∃ t, step s = .next t ∧ t.pc = (serviced s).pc ∧ t.sp = (serviced s).sp ∧ t.a = (serviced s).a ∧ t.f = (serviced s).f ∧
        t.b = (serviced s).b ∧ t.c = (serviced s).c ∧ t.d = (serviced s).d ∧ t.e = (serviced s).e ∧ t.h = (serviced s).h ∧
        t.l = (serviced s).l ∧
        t.halted = true ∧ t.cycleCount = s.cycleCount + (serviced s).stepCycles + 4 ∧
        t.instructionsExecuted = s.instructionsExecuted) ∧
    (s.Enabled → ∃ t, step s = .next t)

/-- R408. That the faulting step answers a next state with fault set, and only later steps the fault, is the model's choice (log 8). The serviced state keeps what an interrupt dispatch in the same step did. -/
def Obligations.IllegalOpcodeStep : Prop :=
  ∀ (s : State) (p : Byte × Instr), s.Enabled → (serviced s).halted = false → p ∈ illegal →
    (serviced s).readByte (serviced s).pc = p.1 →
    ∃ t, step s = .next t ∧
      t = { serviced s with pc := (serviced s).pc + 1, fault := some ⟨p.1, (serviced s).pc⟩, stepCycles := 0 } ∧
      step t = .fault (.unimplementedOpcode p.1 (serviced s).pc)

/-- R405, which the spec marks as derived from R403 and R404 (D20, D21). -/
def Obligations.EiDelay : Prop :=
  ∀ (s : State) (i : Instr), s.Enabled →
    ((serviced s).halted = false → AtPc (serviced s) i →
      ∃ t u, exec i (past (serviced s) i) = .next t ∧ step s = .next u ∧
        (t.fault = none → ((serviced s).imePending = true ∧ i ≠ .di → u.ime = true ∧ u.imePending = false) ∧
          (¬((serviced s).imePending = true ∧ i ≠ .di) → u.ime = t.ime ∧ u.imePending = t.imePending))) ∧
    ((serviced s).halted = true →
      ∃ u, step s = .next u ∧ u.ime = (serviced s).ime ∧ u.imePending = (serviced s).imePending)

/-- R512 to R516. That the entry clears imePending is the spec's own choice (R514, D43). -/
def Obligations.InterruptService : Prop :=
  ∀ s : State,
    let pend := s.memAt 0xFFFF &&& s.memAt 0xFF0F &&& 0x1F
    (pend = 0 → s.service = s) ∧
    (pend ≠ 0 → s.ime = false → s.service = { s with halted := false }) ∧
    ∀ k : Nat, k < 5 → pend.getLsbD k = true → (∀ j, j < k → pend.getLsbD j = false) → s.ime = true →
      s.service =
        { pushed (({ s with halted := false } : State).pokeMem 0xFF0F
            (BitVec.ofNat 8 ((s.memAt 0xFF0F).toNat - 2 ^ k))) s.pc with
          pc := [0x0040, 0x0048, 0x0050, 0x0058, 0x0060].getD k 0
          ime := false
          imePending := false
          stepCycles := s.stepCycles + if s.halted then 24 else 20 }

/-- R91 to R97; FF00 is JoypadRead. That a cartType above 0x03 reads through the bank offset too is the model's choice (log 12): R92 names 0x00 and 0x01 to 0x03. -/
def Obligations.BusReads : Prop :=
  ∀ (s : State) (x : Word),
    (0x4000 ≤ x.toNat → x.toNat ≤ 0x7FFF →
      s.readByte x = s.romAt (if s.cartType = 0x00 then x.toNat else s.romBank.toNat * 0x4000 + (x.toNat - 0x4000))) ∧
    (0xA000 ≤ x.toNat → x.toNat ≤ 0xBFFF →
      s.readByte x = if s.ramEnabled then s.ramAt (s.ramBank.toNat * 0x2000 + (x.toNat - 0xA000)) else 0xFF) ∧
    (x.toNat = 0xFF0F → s.readByte x = s.memAt 0xFF0F ||| 0xE0) ∧
    (0xFF10 ≤ x.toNat → x.toNat ≤ 0xFF3F → s.readByte x = 0xFF) ∧
    (¬(0x4000 ≤ x.toNat ∧ x.toNat ≤ 0x7FFF) → ¬(0xA000 ≤ x.toNat ∧ x.toNat ≤ 0xBFFF) → x.toNat ≠ 0xFF00 →
      x.toNat ≠ 0xFF0F → ¬(0xFF10 ≤ x.toNat ∧ x.toNat ≤ 0xFF3F) → s.readByte x = s.memAt x.toNat)

/-- R94, bit by bit. -/
def Obligations.JoypadRead : Prop :=
  ∀ s : State,
    let p := s.memAt 0xFF00
    (s.readByte 0xFF00).getLsbD 7 = true ∧ (s.readByte 0xFF00).getLsbD 6 = true ∧
    (s.readByte 0xFF00).getLsbD 5 = p.getLsbD 5 ∧ (s.readByte 0xFF00).getLsbD 4 = p.getLsbD 4 ∧
    ∀ i : Nat, i < 4 →
      (s.readByte 0xFF00).getLsbD i =
        !((!p.getLsbD 4 && s.buttons.getLsbD i) || (!p.getLsbD 5 && s.buttons.getLsbD (i + 4)))

/-- R105 to R110, R113 to R115; E000–FDFF mirrors down (R107). -/
def Obligations.BusWrites : Prop :=
  ∀ (s : State) (x : Word) (v : Byte),
    ((s.cartType = 0x00 ∧ x.toNat ≤ 0x7FFF) ∨ (0xA000 ≤ x.toNat ∧ x.toNat ≤ 0xBFFF ∧ s.ramEnabled = false) ∨
      (0xFEA0 ≤ x.toNat ∧ x.toNat ≤ 0xFEFF) ∨ x.toNat = 0xFF44 → s.writeByte x v = s) ∧
    (0xA000 ≤ x.toNat → x.toNat ≤ 0xBFFF → s.ramEnabled = true →
      s.writeByte x v = { s with ram := (s.writeByte x v).ram } ∧
      ∀ a, (s.writeByte x v).ramAt a = if a = s.ramBank.toNat * 0x2000 + (x.toNat - 0xA000) then v else s.ramAt a) ∧
    (0xC000 ≤ x.toNat → x.toNat ≤ 0xDDFF →
      BytesBecome (fun a => a = x.toNat ∨ a = x.toNat + 0x2000) v s (s.writeByte x v)) ∧
    (0xE000 ≤ x.toNat → x.toNat ≤ 0xFDFF →
      BytesBecome (fun a => a = x.toNat ∨ a = x.toNat - 0x2000) v s (s.writeByte x v)) ∧
    (x.toNat = 0xFF04 → BytesBecome (fun a => a = 0xFF04) 0x00 s (s.writeByte x v)) ∧
    (x.toNat = 0xFF02 →
      BytesBecome (fun a => a = 0xFF02) v
        { s with outputs := if v = s.cfg.serialHookValue then .serialOut (s.memAt 0xFF01) :: s.outputs else s.outputs }
        (s.writeByte x v)) ∧
    ((0x8000 ≤ x.toNat ∧ x.toNat ≤ 0x9FFF) ∨ (0xDE00 ≤ x.toNat ∧ x.toNat ≤ 0xDFFF) ∨
      (0xFE00 ≤ x.toNat ∧ x.toNat ≤ 0xFE9F) ∨ (0xFF80 ≤ x.toNat) ∨
      (0xFF00 ≤ x.toNat ∧ x.toNat ≤ 0xFF4B ∧ x.toNat ≠ 0xFF02 ∧ x.toNat ≠ 0xFF04 ∧ x.toNat ≠ 0xFF44 ∧ x.toNat ≠ 0xFF46) →
      BytesBecome (fun a => a = x.toNat) v s (s.writeByte x v))

/-- R101, R102, R120, in integer arithmetic. -/
def Obligations.RomBankSelect : Prop :=
  ∀ (s : State) (x : Word) (v : Byte), s.cartType ≠ 0x00 →
    (x.toNat ≤ 0x1FFF → s.writeByte x v = { s with ramEnabled := decide (v.toNat % 16 = 0xA) }) ∧
    (0x2000 ≤ x.toNat → x.toNat ≤ 0x3FFF →
      s.writeByte x v =
        { s with romBank := BitVec.ofNat 7 (bankAfterRemap (s.romBank.toNat / 32 * 32 + v.toNat % 32)) })

/-- R103, R104, R121, R122. The split of 4000–7FFF (D9) and the second remap (D10, D11) are the spec's own choices. -/
def Obligations.UpperBitsAndMode : Prop :=
  ∀ (s : State) (x : Word) (v : Byte), s.cartType ≠ 0x00 →
    (0x4000 ≤ x.toNat → x.toNat ≤ 0x5FFF → s.mbcMode = false →
      s.writeByte x v =
        { s with romBank := BitVec.ofNat 7 (bankAfterRemap
            (32 * (if s.cfg.upperBits = .dataBits5to6 then v.toNat / 32 % 4 else v.toNat % 4) + s.romBank.toNat % 32)) }) ∧
    (0x4000 ≤ x.toNat → x.toNat ≤ 0x5FFF → s.mbcMode = true →
      s.writeByte x v = { s with ramBank := BitVec.ofNat 2 (v.toNat % 4) }) ∧
    (0x6000 ≤ x.toNat → x.toNat ≤ 0x7FFF → s.writeByte x v = { s with mbcMode := decide (v.toNat % 2 = 1) })

/-- R111, R112, R73. Storing v first, reading by ReadByte, writing OAM directly (D13) and storing the unmap byte (D14) are the spec's own choices. -/
def Obligations.DmaAndBootUnmap : Prop :=
  (∀ (s : State) (v : Byte),
    let t := s.writeByte 0xFF46 v
    (∀ i, i < 160 → t.memAt (0xFE00 + i) = (s.pokeMem 0xFF46 v).readByte (BitVec.ofNat 16 (256 * v.toNat + i))) ∧
    t.memAt 0xFF46 = v ∧
    (∀ a, a ≠ 0xFF46 → ¬(0xFE00 ≤ a ∧ a ≤ 0xFE9F) → t.memAt a = s.memAt a) ∧
    t = { s with mem := t.mem }) ∧
  ∀ (s : State) (x : Word) (v : Byte), 0xFF4C ≤ x.toNat → x.toNat ≤ 0xFF7F →
    (v ≠ 0x01 → BytesBecome (fun a => a = x.toNat) v s (s.writeByte x v)) ∧
    (v = 0x01 →
      s.writeByte x v = { s with mem := (s.writeByte x v).mem, bootMapped := false } ∧
      ∀ a, (s.writeByte x v).memAt a = if a < 0x100 then s.romAt a else if a = x.toNat then v else s.memAt a)

/-- R44, R75, R93, R96, R105 to R107, R114 with R84, R85. -/
def Obligations.StoreThenLoad : Prop :=
  (∀ (s : State) (a x : Nat) (v : Byte),
    (s.pokeMem a v).memAt x = (if x = a then v else s.memAt x) ∧ s.pokeMem a v = { s with mem := (s.pokeMem a v).mem }) ∧
  (∀ (s : State) (x : Word) (v : Byte), readsBack s x → (s.writeByte x v).readByte x = v) ∧
  ∀ (s : State) (q : StackPair), readsBack s (s.sp - 1) → readsBack s (s.sp - 2) →
    ∃ t u, exec (pushPair q) s = .next t ∧ exec (popPair q) t = .next u ∧ getStack u q = getStack s q ∧ u.sp = s.sp

/-- Tier 3. Together with the result statements this is the frame of every instruction: nothing outside the registers and latches changes but by its stores. -/
def Obligations.InstructionsOnlyStore : Prop :=
  ∀ (i : Instr) (s : State), WellFormed i = true → ∃ t, exec i s = .next t ∧ SameOutsideCpu t (stored (storesOf i s) s)

/-- Tier 3. The byte frame, by the model's read of one byte. -/
def Obligations.MemoryFrame : Prop :=
  ∀ (i : Instr) (s t : State) (y : Word), WellFormed i = true → exec i s = .next t →
    (∀ p ∈ storesOf i s, ¬ reaches s p.1 p.2 y) → t.readByte y = s.readByte y

/-- R100, R107, R108, R110, R115, R120, R123: the frame of the store statements, over any number of stores. -/
def Obligations.BusWriteFrame : Prop :=
  ∀ (l : List (Word × Byte)) (s : State),
    let t := stored l s
    t = { s with
      mem := t.mem
      ram := t.ram
      romBank := t.romBank
      ramBank := t.ramBank
      ramEnabled := t.ramEnabled
      mbcMode := t.mbcMode
      bootMapped := t.bootMapped
      outputs := t.outputs } ∧
    t.memAt 0xFF44 = s.memAt 0xFF44 ∧ (∀ a, 0xFEA0 ≤ a → a ≤ 0xFEFF → t.memAt a = s.memAt a) ∧
    (∀ a, 0x100 ≤ a → a ≤ 0x7FFF → t.memAt a = s.memAt a) ∧ (s.EchoMirrored → t.EchoMirrored) ∧
    (s.BankReachable → t.BankReachable) ∧
    (s.cartType = 0x00 → t.romBank = s.romBank ∧ t.ramBank = s.ramBank ∧ t.ramEnabled = s.ramEnabled ∧ t.mbcMode = s.mbcMode)

/-- R530, R531. -/
def Obligations.TimerUpdate : Prop :=
  ∀ (s : State) (delta : Nat),
    let t := s.timerUpdate delta
    let due := (s.timaAcc + delta) / threshold (s.memAt 0xFF07)
    let ticks := if s.cfg.timerMultiTick then due else min 1 due
    let run := timaAfter (s.memAt 0xFF06).toNat ticks (s.memAt 0xFF05).toNat
    t.divAcc = (s.divAcc + delta) % 256 ∧
    t.memAt 0xFF04 = BitVec.ofNat 8 ((s.memAt 0xFF04).toNat + (s.divAcc + delta) / 256) ∧
    (ioBit s 0xFF07 2 = false →
      t.timaAcc = s.timaAcc ∧ t.memAt 0xFF05 = s.memAt 0xFF05 ∧ t.memAt 0xFF0F = s.memAt 0xFF0F) ∧
    (ioBit s 0xFF07 2 = true →
      t.timaAcc = s.timaAcc + delta - ticks * threshold (s.memAt 0xFF07) ∧
      (t.memAt 0xFF05).toNat = run.1 ∧
      t.memAt 0xFF0F = s.memAt 0xFF0F ||| (if run.2 then 0x04 else 0x00)) ∧
    (∀ a, a ≠ 0xFF04 → a ≠ 0xFF05 → a ≠ 0xFF0F → t.memAt a = s.memAt a) ∧
    t = { s with mem := t.mem, divAcc := t.divAcc, timaAcc := t.timaAcc }

/-- R540. -/
def Obligations.LcdDisabled : Prop :=
  ∀ (s : State) (delta : Nat),
    let t := s.lcdUpdate delta
    (ioBit s 0xFF40 7 = false →
      t.lcdAcc = 0 ∧ t.memAt 0xFF44 = 0 ∧ (t.memAt 0xFF41).toNat = (s.memAt 0xFF41).toNat / 4 * 4 + 1 ∧
      (∀ a, a ≠ 0xFF41 → a ≠ 0xFF44 → t.memAt a = s.memAt a) ∧ t = { s with mem := t.mem, lcdAcc := 0 }) ∧
    (ioBit s 0xFF40 7 = true → s.lcdAcc + delta < 456 → t.lcdAcc = s.lcdAcc + delta)

/-- R541, R542. The position is an integer: past 456 it is negative, which is mode 0 (log 23). -/
def Obligations.LcdLine : Prop :=
  ∀ (s : State) (delta : Nat), ioBit s 0xFF40 7 = true →
    let t := s.lcdUpdate delta
    let ly := (s.memAt 0xFF44).toNat
    let stat := (s.memAt 0xFF41).toNat
    let ended := decide (456 ≤ s.lcdAcc + delta)
    let acc := if ended then s.lcdAcc + delta - 456 else s.lcdAcc + delta
    let line := if ended then (if 153 < ly + 1 then 0 else ly + 1) else ly
    let coin := decide (line = (s.memAt 0xFF45).toNat)
    let pos : Int := if s.cfg.modePosition = .countdown then 456 - (acc : Int) else acc
    let mode := if 144 ≤ line then 1 else if 376 ≤ pos then 2 else if 204 ≤ pos then 3 else 0
    let flag := if ended then coin else ioBit s 0xFF41 2
    let vblank := ended && decide (ly + 1 = 144)
    let lycIrq := ended && coin && !ioBit s 0xFF41 2 && ioBit s 0xFF41 6
    let modeIrq := decide (mode ≠ stat % 4 ∧
      ((mode = 0 ∧ ioBit s 0xFF41 3 = true) ∨ (mode = 1 ∧ ioBit s 0xFF41 4 = true) ∨ (mode = 2 ∧ ioBit s 0xFF41 5 = true)))
    t.lcdAcc = acc ∧ (t.memAt 0xFF44).toNat = line ∧ (t.memAt 0xFF41).toNat = stat / 8 * 8 + 4 * flag.toNat + mode ∧
    t.memAt 0xFF0F = s.memAt 0xFF0F ||| (if vblank then 0x01 else 0x00) ||| (if lycIrq || modeIrq then 0x02 else 0x00) ∧
    t.framebuffer = (if ended = true ∧ ly < 144 then (s.renderLine ly).framebuffer else s.framebuffer) ∧
    t.lineShade = (if ended = true ∧ ly < 144 then (s.renderLine ly).lineShade else s.lineShade) ∧
    t.outputs = (if vblank then .present t.framebuffer :: s.outputs else s.outputs) ∧
    (∀ a, a ≠ 0xFF0F → a ≠ 0xFF41 → a ≠ 0xFF44 → t.memAt a = s.memAt a) ∧
    t = { s with
      mem := t.mem
      lcdAcc := t.lcdAcc
      framebuffer := t.framebuffer
      lineShade := t.lineShade
      outputs := t.outputs }

/-- R543 to R547, pixel by pixel. -/
def Obligations.RenderedPixels : Prop :=
  ∀ (s : State) (ly x : Nat), ly < 144 → x < 160 → s.framebuffer.length = 144 →
    let t := s.renderLine ly
    t.lineShade[x]? = some (BitVec.ofNat 2 (layerPixel s ly x)) ∧
    t.framebuffer[ly]?.bind (fun row => row[x]?) =
      some (colourOf (match spritePixelOf s ly x with
        | some shade => shade
        | none => layerPixel s ly x)) ∧
    (∀ y, y ≠ ly → t.framebuffer[y]? = s.framebuffer[y]?) ∧
    t = { s with lineShade := t.lineShade, framebuffer := t.framebuffer }

/-- R548, which the spec marks as derived from R541 (the source's property of L1.5). -/
def Obligations.ScanlineWrap : Prop :=
  ∀ s : State, ioBit s 0xFF40 7 = true → s.memAt 0xFF44 = 0 → s.lcdAcc = 0 →
    (∀ n, n ≤ 153 → ((lineUpdates n s).memAt 0xFF44).toNat = n) ∧
    (lineUpdates 154 s).memAt 0xFF44 = 0 ∧
    (∀ n, n < 154 → ioBit (lineUpdates (n + 1) s) 0xFF0F 0 = (ioBit (lineUpdates n s) 0xFF0F 0 || decide (n = 143))) ∧
    (lineUpdates 154 s).outputs = .present (lineUpdates 144 s).framebuffer :: s.outputs

/-- R45, R46, R76, R78, R602, R604. That the reset state is the load of the empty image with every parameter at its default is the model's choice (log 1, log 4); INIT_MEM is log 6. -/
def Obligations.ResetValues : Prop :=
  StartRegisters State.reset ∧ HiddenStateReset State.reset ∧ FramebufferBlack State.reset ∧ State.reset.bootMapped = false ∧
  (∀ p ∈ ioTable, State.reset.memAt p.1 = p.2) ∧
  (∀ a, 0x8000 ≤ a → (∀ p ∈ ioTable, a ≠ p.1) → State.reset.memAt a = 0x00) ∧
  (∀ a, a < 0x8000 → State.reset.memAt a = State.reset.romAt a) ∧ (∀ a, State.reset.romAt a = 0x00) ∧
  (∀ a, State.reset.ramAt a = 0x00) ∧ State.reset.cartType = 0x00 ∧
  State.reset.readByte 0xFF0F = 0xE0 ∧ State.reset.readByte 0xFF10 = 0xFF ∧ State.reset.readByte 0xFF00 = 0xCF ∧
  State.reset.readByte 0xA000 = 0xFF

/-- R601, R602, R76 to R78. Cutting a long image and reading a short one as type 0 are the spec's own choices (D7, D8); that a load keeps the parameters and clears the outputs (log 20) and what a failure answers (log 24) are the model's choices. -/
def Obligations.LoadCartridgeResets : Prop :=
  ∀ (s : State) (image : List Byte) (battery : Option (List Byte)),
    let kind := if 0x0147 < image.length then image.getD 0x0147 0 else 0x00
    s.loadCartridge none battery = .failed .fileMissing ∧
    (0x03 < kind.toNat → s.loadCartridge (some image) battery = .failed (.unsupportedController kind)) ∧
    (kind.toNat ≤ 0x03 →
      ∃ t why, s.loadCartridge (some image) battery = .loaded t why ∧
        why = (if kind ≠ 0x03 then some .noBattery else if battery = none then some .fileMissing else none) ∧
        (∀ u : State, kind = 0x03 → battery.isSome = true → u.saveBatteryRam = battery → ∀ a, a < 0x8000 → t.ramAt a = u.ramAt a) ∧
        t.cfg = s.cfg ∧ t.outputs = [] ∧ t.cartType = kind ∧
        (∀ a, a < 0x200000 → t.romAt a = image.getD a 0) ∧
        (∀ a, a < 0x8000 → t.ramAt a = if kind = 0x03 then (battery.getD []).getD a 0 else 0) ∧
        (s.cfg.bootRom = none →
          StartRegisters t ∧ t.bootMapped = false ∧ (∀ a, a < 0x8000 → t.memAt a = image.getD a 0) ∧
          (∀ p ∈ ioTable, t.memAt p.1 = p.2) ∧
          ∀ a, 0x8000 ≤ a → (∀ p ∈ ioTable, a ≠ p.1) → t.memAt a = s.cfg.initMem) ∧
        (∀ boot, s.cfg.bootRom = some boot → boot.length = 256 →
          BootRegisters t ∧ t.bootMapped = true ∧ (∀ a, a < 0x100 → t.memAt a = boot.getD a 0) ∧
          (∀ a, 0x100 ≤ a → a < 0x8000 → t.memAt a = image.getD a 0) ∧
          ∀ a, 0x8000 ≤ a → t.memAt a = s.cfg.initMem) ∧
        HiddenStateReset t ∧ FramebufferBlack t)

/-- R550. -/
def Obligations.KeyPresses : Prop :=
  ∀ (s : State) (b : Fin 8),
    (s.buttons.getLsbD b = true → s.keyPress b = s) ∧
    (s.buttons.getLsbD b = false →
      (s.keyPress b).memAt 0xFF0F = s.memAt 0xFF0F ||| 0x10 ∧ (∀ a, a ≠ 0xFF0F → (s.keyPress b).memAt a = s.memAt a) ∧
      s.keyPress b = { s with mem := (s.keyPress b).mem, buttons := bitSet s.buttons b, stopped := false }) ∧
    s.keyRelease b = { s with buttons := bitCleared s.buttons b }

/-- R560, R561. What a failure answers is the model's choice (log 24). Reading the pending-interrupt flag as imePending and leaving IME out are the spec's own readings (D20, D46). -/
def Obligations.SaveStateRoundTrip : Prop :=
  ∀ s u : State,
    (∀ registers, u.loadState none registers = .failed .fileMissing) ∧
    (∀ image, u.loadState image none = .failed .fileMissing) ∧
    ∃ t, u.loadState (some s.saveState.image) (some s.saveState.registers) = .done t ∧ (∀ a, a < 0x10000 → t.memAt a = s.memAt a) ∧
    t = { u with
      mem := t.mem
      a := s.a
      f := fByte (zOf s) (nOf s) (hOf s) (cOf s)
      b := s.b
      c := s.c
      d := s.d
      e := s.e
      h := s.h
      l := s.l
      pc := s.pc
      sp := s.sp
      cycleCount := s.cycleCount
      imePending := s.imePending
      halted := s.halted
      stopped := s.stopped
      instructionsExecuted := s.instructionsExecuted }

/-- R35, R47, R49, R50, R64, R107 at reset; the reset state is log 1. -/
def Obligations.InvariantAtReset : Prop :=
  State.reset.Inv

/-- Tier 3. The invariant of the machine, from any state, not only from runs of the reset state. -/
def Obligations.StepKeepsInvariant : Prop :=
  ∀ s t : State, s.Inv → step s = .next t → t.Inv

/-- R550, R560, R601. A LoadState is left out: it takes any memory image (R561). -/
def Obligations.HostKeepsInvariant : Prop :=
  (∀ (s : State) (b : Fin 8), s.Inv → (s.keyPress b).Inv ∧ (s.keyRelease b).Inv) ∧
  (∀ (s t : State) (bytes : Option (List Byte)), s.Inv → s.loadBatteryRam bytes = .done t → t.Inv) ∧
  ∀ (s t : State) (image battery : Option (List Byte)) (why : Option HostFailure), s.cfg.initMem.toNat ≤ 153 →
    s.loadCartridge image battery = .loaded t why → t.Inv

/-- R45, R52, R53, R43, R41, R502 (the bound of 48 is one the spec derives). -/
def Obligations.StepFrame : Prop :=
  ∀ s t : State, step s = .next t →
    t.rom = s.rom ∧ t.cartType = s.cartType ∧ t.buttons = s.buttons ∧ t.cfg = s.cfg ∧
    (t.bootMapped = true → s.bootMapped = true) ∧
    s.instructionsExecuted ≤ t.instructionsExecuted ∧ t.instructionsExecuted ≤ s.instructionsExecuted + 1 ∧
    s.cycleCount ≤ t.cycleCount ∧
    (s.cfg.cycleTable = [] → t.cycleCount ≤ s.cycleCount + 48 ∧ (t.fault = none → s.cycleCount + 4 ≤ t.cycleCount))

/-- R6, R620, R622, which the spec derives from R500. The table as a list of the costs that differ from the default, the first entry of a key counting, is the model's choice (log 5). -/
def Obligations.CycleTableOnlyCosts : Prop :=
  (∀ (c : Config) (k : CostKey) (n : Nat), (∀ p ∈ c.cycleTable, p.1 ≠ k) → cycleCost c k n = n) ∧
  (∀ (c : Config) (k : CostKey) (n m : Nat) (l r : List (CostKey × Nat)),
    c.cycleTable = l ++ (k, m) :: r → (∀ p ∈ l, p.1 ≠ k) → cycleCost c k n = m) ∧
  ∀ (i : Instr) (s : State) (table : List (CostKey × Nat)),
    ∃ t n, exec i s = .next t ∧ exec i (withTable s table) = .next { withTable t table with stepCycles := n }
end

