-- ==== Sys2Proof/Laws/Memory.lean ====
section
/-! SUPPORT. The laws of the sparse memory: a read after a write, and the canonical form kept by every memory operation. -/

namespace Sys2Proof.Machine

theorem Memory.lookup_filter_same (m : Memory) (a : Nat) : Memory.lookup (List.filter (fun cell => cell.1 != a) m) a = none := by
  induction m with
  | nil => rfl
  | cons cell m ih =>
    by_cases h : cell.1 = a
    · simp [h, ih]
    · simp [h, Memory.lookup, ih]

theorem Memory.lookup_filter_other (m : Memory) {a x : Nat} (h : x ≠ a) :
    Memory.lookup (List.filter (fun cell => cell.1 != a) m) x = Memory.lookup m x := by
  induction m with
  | nil => rfl
  | cons cell m ih =>
    by_cases hc : cell.1 = a
    · simp [hc, Memory.lookup, ih, Ne.symm h]
    · by_cases hx : cell.1 = x <;> simp [hc, Memory.lookup, ih, hx, h]

theorem Memory.lookup_insert_other (m : Memory) {a x : Nat} (v : Byte) (h : x ≠ a) :
    Memory.lookup (Memory.insert m a v) x = Memory.lookup m x := by
  induction m with
  | nil => simp [Memory.insert, Memory.lookup, Ne.symm h]
  | cons cell m ih =>
    by_cases hk : a < cell.1
    · simp [Memory.insert, Memory.lookup, hk, Ne.symm h]
    · simp [Memory.insert, Memory.lookup, hk, ih]

theorem Memory.lookup_insert_same (m : Memory) (a : Nat) (v : Byte) (h : Memory.lookup m a = none) :
    Memory.lookup (Memory.insert m a v) a = some v := by
  induction m with
  | nil => simp [Memory.insert, Memory.lookup]
  | cons cell m ih =>
    have hne : cell.1 ≠ a := by
      intro he
      simp [Memory.lookup, he] at h
    have htail : Memory.lookup m a = none := by simpa [Memory.lookup, hne] using h
    by_cases hk : a < cell.1
    · simp [Memory.insert, Memory.lookup, hk]
    · simp [Memory.insert, Memory.lookup, hk, hne, ih htail]

/-- A read of the address just written gives the value written. -/
@[simp] theorem Memory.read_write_same (dflt : Nat → Byte) (m : Memory) (a : Nat) (v : Byte) :
    Memory.read dflt (Memory.write dflt m a v) a = v := by
  by_cases h : v = dflt a
  · simp [Memory.write, Memory.read, h, Memory.lookup_filter_same]
  · simp [Memory.write, Memory.read, h, Memory.lookup_insert_same _ _ _ (Memory.lookup_filter_same m a)]

/-- A write leaves every other address alone. -/
theorem Memory.read_write_other (dflt : Nat → Byte) (m : Memory) {a x : Nat} (v : Byte) (h : x ≠ a) :
    Memory.read dflt (Memory.write dflt m a v) x = Memory.read dflt m x := by
  by_cases hv : v = dflt a
  · simp [Memory.write, Memory.read, hv, Memory.lookup_filter_other m h]
  · simp [Memory.write, Memory.read, hv, Memory.lookup_insert_other _ _ h, Memory.lookup_filter_other m h]

/-- Both laws at once. -/
theorem Memory.read_write (dflt : Nat → Byte) (m : Memory) (a x : Nat) (v : Byte) :
    Memory.read dflt (Memory.write dflt m a v) x = if x = a then v else Memory.read dflt m x := by
  by_cases h : x = a
  · subst h; simp
  · simp [h, Memory.read_write_other dflt m v h]

/-! ### The canonical form -/

theorem Memory.risesFrom_mono {lo lo' : Nat} {m : Memory} (h : lo ≤ lo') (hm : Memory.risesFrom lo' m = true) :
    Memory.risesFrom lo m = true := by
  cases m with
  | nil => rfl
  | cons cell m =>
    obtain ⟨k, v⟩ := cell
    simp only [Memory.risesFrom, Bool.and_eq_true, decide_eq_true_eq] at hm ⊢
    exact ⟨h.trans hm.1, hm.2⟩

theorem Memory.risesFrom_filter (p : Host.Cell → Bool) (lo : Nat) (m : Memory) (hm : Memory.risesFrom lo m = true) :
    Memory.risesFrom lo (List.filter p m) = true := by
  induction m generalizing lo with
  | nil => rfl
  | cons cell m ih =>
    obtain ⟨k, v⟩ := cell
    simp only [Memory.risesFrom, Bool.and_eq_true, decide_eq_true_eq] at hm
    rw [List.filter_cons]
    split
    · simp [Memory.risesFrom, hm.1, ih _ hm.2]
    · exact ih lo (Memory.risesFrom_mono (by omega) hm.2)

theorem Memory.risesFrom_insert (lo a : Nat) (v : Byte) (m : Memory) (hlo : lo ≤ a) (hm : Memory.risesFrom lo m = true)
    (ha : ∀ cell ∈ m, cell.1 ≠ a) : Memory.risesFrom lo (Memory.insert m a v) = true := by
  induction m generalizing lo with
  | nil => simp [Memory.insert, Memory.risesFrom, hlo]
  | cons cell m ih =>
    obtain ⟨k, w⟩ := cell
    simp only [Memory.risesFrom, Bool.and_eq_true, decide_eq_true_eq] at hm
    have hka : k ≠ a := ha (k, w) (by simp)
    by_cases hk : a < k
    · simp [Memory.insert, hk, Memory.risesFrom, hlo, hm.2, Nat.succ_le_of_lt hk]
    · have := ih (k + 1) (by omega) hm.2 (fun cell hc => ha cell (by simp [hc]))
      simp [Memory.insert, hk, Memory.risesFrom, hm.1, this]

theorem Memory.mem_insert (m : Memory) (a : Nat) (v : Byte) (cell : Host.Cell) (h : cell ∈ Memory.insert m a v) :
    cell = (a, v) ∨ cell ∈ m := by
  induction m with
  | nil => simpa [Memory.insert] using h
  | cons c m ih =>
    obtain ⟨k, w⟩ := c
    by_cases hk : a < k
    · simpa [Memory.insert, hk] using h
    · simp only [Memory.insert, hk, if_false, List.mem_cons] at h ⊢
      rcases h with h | h
      · exact .inr (.inl h)
      · exact (ih h).imp id .inr

/-- The canonical form in terms of membership. -/
theorem Memory.wf_iff (dflt : Nat → Byte) (size : Nat) (m : Memory) :
    Memory.wf dflt size m = true ↔
      Memory.risesFrom 0 m = true ∧ ∀ cell ∈ m, cell.1 < size ∧ cell.2 ≠ dflt cell.1 := by
  simp [Memory.wf]

/-- A write inside the memory keeps the canonical form. -/
theorem Memory.wf_write (dflt : Nat → Byte) (size : Nat) (m : Memory) (a : Nat) (v : Byte) (ha : a < size)
    (hm : Memory.wf dflt size m = true) : Memory.wf dflt size (Memory.write dflt m a v) = true := by
  rw [Memory.wf_iff] at hm ⊢
  have hf := Memory.risesFrom_filter (fun cell => cell.1 != a) 0 m hm.1
  by_cases hv : v = dflt a
  · simp only [Memory.write, hv, if_true]
    exact ⟨hf, fun cell hc => hm.2 cell (List.mem_of_mem_filter hc)⟩
  · simp only [Memory.write, hv, if_false]
    refine ⟨Memory.risesFrom_insert 0 a v _ (Nat.zero_le a) hf (fun cell hc => by simpa using (List.mem_filter.1 hc).2), ?_⟩
    intro cell hc
    rcases Memory.mem_insert _ _ _ _ hc with rfl | hc
    · exact ⟨ha, hv⟩
    · exact hm.2 cell (List.mem_of_mem_filter hc)

theorem Memory.lookup_eq_none_of_risesFrom {m : Memory} {lo a : Nat} (hm : Memory.risesFrom lo m = true) (ha : a < lo) :
    Memory.lookup m a = none := by
  induction m generalizing lo with
  | nil => rfl
  | cons cell m ih =>
    obtain ⟨k, v⟩ := cell
    simp only [Memory.risesFrom, Bool.and_eq_true, decide_eq_true_eq] at hm
    simp [Memory.lookup, show k ≠ a by omega, ih hm.2 (by omega)]

theorem Memory.risesFrom_ofBytes (dflt : Nat → Byte) (a : Nat) (l : List Byte) :
    Memory.risesFrom a (Memory.ofBytes dflt a l) = true := by
  induction l generalizing a with
  | nil => rfl
  | cons v l ih =>
    rw [Memory.ofBytes]
    split
    · exact Memory.risesFrom_mono (by omega) (ih (a + 1))
    · simp [Memory.risesFrom, ih (a + 1)]

/-- A memory built from bytes reads those bytes, and the default elsewhere. -/
theorem Memory.read_ofBytes (dflt : Nat → Byte) (a x : Nat) (l : List Byte) :
    Memory.read dflt (Memory.ofBytes dflt a l) x = if a ≤ x ∧ x < a + l.length then l.getD (x - a) 0 else dflt x := by
  induction l generalizing a with
  | nil =>
    have : ¬ (a ≤ x ∧ x < a) := by omega
    simp [Memory.ofBytes, Memory.read, Memory.lookup, this]
  | cons v l ih =>
    have ih := ih (a + 1)
    have hsub : ∀ h : a < x, x - a = (x - (a + 1)) + 1 := by omega
    rw [Memory.ofBytes]
    split
    · rename_i hv
      rw [ih]
      rcases Nat.lt_trichotomy x a with h | h | h
      · simp [show ¬ (a + 1 ≤ x) by omega, show ¬ (a ≤ x) by omega]
      · subst h; simp [hv]
      · simp [show a + 1 ≤ x by omega, show a ≤ x by omega, hsub h, Nat.add_assoc, Nat.add_comm 1]
    · rcases Nat.lt_trichotomy x a with h | h | h
      · have := Memory.lookup_eq_none_of_risesFrom (Memory.risesFrom_ofBytes dflt (a + 1) l) (show x < a + 1 by omega)
        simp [Memory.read, Memory.lookup, show a ≠ x by omega, this, show ¬ (a ≤ x) by omega]
      · subst h; simp [Memory.read, Memory.lookup]
      · have hr : Memory.read dflt ((a, v) :: Memory.ofBytes dflt (a + 1) l) x = Memory.read dflt (Memory.ofBytes dflt (a + 1) l) x := by
          simp [Memory.read, Memory.lookup, show a ≠ x by omega]
        rw [hr, ih]
        simp [show a + 1 ≤ x by omega, show a ≤ x by omega, hsub h, Nat.add_assoc, Nat.add_comm 1]

theorem Memory.mem_ofBytes (dflt : Nat → Byte) (a : Nat) (l : List Byte) (cell : Host.Cell)
    (h : cell ∈ Memory.ofBytes dflt a l) : cell.1 < a + l.length ∧ cell.2 ≠ dflt cell.1 := by
  induction l generalizing a with
  | nil => simp [Memory.ofBytes] at h
  | cons v l ih =>
    rw [Memory.ofBytes] at h
    split at h
    · obtain ⟨h1, h2⟩ := ih (a + 1) h
      exact ⟨by simp; omega, h2⟩
    · rename_i hv
      rcases List.mem_cons.1 h with rfl | h
      · exact ⟨by simp, hv⟩
      · obtain ⟨h1, h2⟩ := ih (a + 1) h
        exact ⟨by simp; omega, h2⟩

/-- A memory built from bytes is canonical. -/
theorem Memory.wf_ofBytes (dflt : Nat → Byte) (size : Nat) (l : List Byte) (h : l.length ≤ size) :
    Memory.wf dflt size (Memory.ofBytes dflt 0 l) = true := by
  rw [Memory.wf_iff]
  refine ⟨Memory.risesFrom_ofBytes dflt 0 l, fun cell hc => ?_⟩
  obtain ⟨h1, h2⟩ := Memory.mem_ofBytes dflt 0 l cell hc
  exact ⟨by omega, h2⟩

/-- The reset memory is canonical. -/
theorem Memory.wf_reset :
    Memory.wf (memDefault State.reset.cfg) 0x10000 State.reset.mem = true ∧
    Memory.wf zeroDefault 0x200000 State.reset.rom = true ∧ Memory.wf zeroDefault 0x8000 State.reset.ram = true :=
  ⟨rfl, rfl, rfl⟩

/-! ### Reads and raw writes of a state's memories -/

@[simp] theorem State.memAt_pokeMem_same (s : State) (a : Nat) (v : Byte) : (s.pokeMem a v).memAt a = v :=
  Memory.read_write_same _ _ _ _

theorem State.memAt_pokeMem_other (s : State) {a x : Nat} (v : Byte) (h : x ≠ a) : (s.pokeMem a v).memAt x = s.memAt x :=
  Memory.read_write_other _ _ _ h

theorem State.memAt_pokeMem (s : State) (a x : Nat) (v : Byte) :
    (s.pokeMem a v).memAt x = if x = a then v else s.memAt x :=
  Memory.read_write _ _ _ _ _

theorem State.ramAt_pokeRam (s : State) (a x : Nat) (v : Byte) :
    (s.pokeRam a v).ramAt x = if x = a then v else s.ramAt x :=
  Memory.read_write _ _ _ _ _

@[simp] theorem State.romAt_pokeMem (s : State) (a x : Nat) (v : Byte) : (s.pokeMem a v).romAt x = s.romAt x := rfl
@[simp] theorem State.ramAt_pokeMem (s : State) (a x : Nat) (v : Byte) : (s.pokeMem a v).ramAt x = s.ramAt x := rfl
@[simp] theorem State.memAt_pokeRam (s : State) (a x : Nat) (v : Byte) : (s.pokeRam a v).memAt x = s.memAt x := rfl
@[simp] theorem State.romAt_pokeRam (s : State) (a x : Nat) (v : Byte) : (s.pokeRam a v).romAt x = s.romAt x := rfl

end Sys2Proof.Machine
end

