-- ==== Sys2Proof/Laws/State.lean ====
section
/-! SUPPORT. One lemma per field per update, true by `rfl`, so that no later proof unfolds a record update; and the CPU half of
a state as one update. -/

namespace Sys2Proof.Machine

/-! ### setBC -/

@[simp] theorem State.setBC_a (s : State) (v : Word) : (s.setBC v).a = s.a := rfl
@[simp] theorem State.setBC_f (s : State) (v : Word) : (s.setBC v).f = s.f := rfl
@[simp] theorem State.setBC_b (s : State) (v : Word) : (s.setBC v).b = hiByte v := rfl
@[simp] theorem State.setBC_c (s : State) (v : Word) : (s.setBC v).c = loByte v := rfl
@[simp] theorem State.setBC_d (s : State) (v : Word) : (s.setBC v).d = s.d := rfl
@[simp] theorem State.setBC_e (s : State) (v : Word) : (s.setBC v).e = s.e := rfl
@[simp] theorem State.setBC_h (s : State) (v : Word) : (s.setBC v).h = s.h := rfl
@[simp] theorem State.setBC_l (s : State) (v : Word) : (s.setBC v).l = s.l := rfl
@[simp] theorem State.setBC_sp (s : State) (v : Word) : (s.setBC v).sp = s.sp := rfl
@[simp] theorem State.setBC_pc (s : State) (v : Word) : (s.setBC v).pc = s.pc := rfl
@[simp] theorem State.setBC_ime (s : State) (v : Word) : (s.setBC v).ime = s.ime := rfl
@[simp] theorem State.setBC_imePending (s : State) (v : Word) : (s.setBC v).imePending = s.imePending := rfl
@[simp] theorem State.setBC_halted (s : State) (v : Word) : (s.setBC v).halted = s.halted := rfl
@[simp] theorem State.setBC_stopped (s : State) (v : Word) : (s.setBC v).stopped = s.stopped := rfl
@[simp] theorem State.setBC_cycleCount (s : State) (v : Word) : (s.setBC v).cycleCount = s.cycleCount := rfl
@[simp] theorem State.setBC_fault (s : State) (v : Word) : (s.setBC v).fault = s.fault := rfl
@[simp] theorem State.setBC_instructionsExecuted (s : State) (v : Word) : (s.setBC v).instructionsExecuted = s.instructionsExecuted := rfl
@[simp] theorem State.setBC_mem (s : State) (v : Word) : (s.setBC v).mem = s.mem := rfl
@[simp] theorem State.setBC_rom (s : State) (v : Word) : (s.setBC v).rom = s.rom := rfl
@[simp] theorem State.setBC_ram (s : State) (v : Word) : (s.setBC v).ram = s.ram := rfl
@[simp] theorem State.setBC_cartType (s : State) (v : Word) : (s.setBC v).cartType = s.cartType := rfl
@[simp] theorem State.setBC_romBank (s : State) (v : Word) : (s.setBC v).romBank = s.romBank := rfl
@[simp] theorem State.setBC_ramBank (s : State) (v : Word) : (s.setBC v).ramBank = s.ramBank := rfl
@[simp] theorem State.setBC_ramEnabled (s : State) (v : Word) : (s.setBC v).ramEnabled = s.ramEnabled := rfl
@[simp] theorem State.setBC_mbcMode (s : State) (v : Word) : (s.setBC v).mbcMode = s.mbcMode := rfl
@[simp] theorem State.setBC_divAcc (s : State) (v : Word) : (s.setBC v).divAcc = s.divAcc := rfl
@[simp] theorem State.setBC_timaAcc (s : State) (v : Word) : (s.setBC v).timaAcc = s.timaAcc := rfl
@[simp] theorem State.setBC_lcdAcc (s : State) (v : Word) : (s.setBC v).lcdAcc = s.lcdAcc := rfl
@[simp] theorem State.setBC_framebuffer (s : State) (v : Word) : (s.setBC v).framebuffer = s.framebuffer := rfl
@[simp] theorem State.setBC_lineShade (s : State) (v : Word) : (s.setBC v).lineShade = s.lineShade := rfl
@[simp] theorem State.setBC_buttons (s : State) (v : Word) : (s.setBC v).buttons = s.buttons := rfl
@[simp] theorem State.setBC_bootMapped (s : State) (v : Word) : (s.setBC v).bootMapped = s.bootMapped := rfl
@[simp] theorem State.setBC_cfg (s : State) (v : Word) : (s.setBC v).cfg = s.cfg := rfl
@[simp] theorem State.setBC_stepCycles (s : State) (v : Word) : (s.setBC v).stepCycles = s.stepCycles := rfl
@[simp] theorem State.setBC_outputs (s : State) (v : Word) : (s.setBC v).outputs = s.outputs := rfl

/-! ### setDE -/

@[simp] theorem State.setDE_a (s : State) (v : Word) : (s.setDE v).a = s.a := rfl
@[simp] theorem State.setDE_f (s : State) (v : Word) : (s.setDE v).f = s.f := rfl
@[simp] theorem State.setDE_b (s : State) (v : Word) : (s.setDE v).b = s.b := rfl
@[simp] theorem State.setDE_c (s : State) (v : Word) : (s.setDE v).c = s.c := rfl
@[simp] theorem State.setDE_d (s : State) (v : Word) : (s.setDE v).d = hiByte v := rfl
@[simp] theorem State.setDE_e (s : State) (v : Word) : (s.setDE v).e = loByte v := rfl
@[simp] theorem State.setDE_h (s : State) (v : Word) : (s.setDE v).h = s.h := rfl
@[simp] theorem State.setDE_l (s : State) (v : Word) : (s.setDE v).l = s.l := rfl
@[simp] theorem State.setDE_sp (s : State) (v : Word) : (s.setDE v).sp = s.sp := rfl
@[simp] theorem State.setDE_pc (s : State) (v : Word) : (s.setDE v).pc = s.pc := rfl
@[simp] theorem State.setDE_ime (s : State) (v : Word) : (s.setDE v).ime = s.ime := rfl
@[simp] theorem State.setDE_imePending (s : State) (v : Word) : (s.setDE v).imePending = s.imePending := rfl
@[simp] theorem State.setDE_halted (s : State) (v : Word) : (s.setDE v).halted = s.halted := rfl
@[simp] theorem State.setDE_stopped (s : State) (v : Word) : (s.setDE v).stopped = s.stopped := rfl
@[simp] theorem State.setDE_cycleCount (s : State) (v : Word) : (s.setDE v).cycleCount = s.cycleCount := rfl
@[simp] theorem State.setDE_fault (s : State) (v : Word) : (s.setDE v).fault = s.fault := rfl
@[simp] theorem State.setDE_instructionsExecuted (s : State) (v : Word) : (s.setDE v).instructionsExecuted = s.instructionsExecuted := rfl
@[simp] theorem State.setDE_mem (s : State) (v : Word) : (s.setDE v).mem = s.mem := rfl
@[simp] theorem State.setDE_rom (s : State) (v : Word) : (s.setDE v).rom = s.rom := rfl
@[simp] theorem State.setDE_ram (s : State) (v : Word) : (s.setDE v).ram = s.ram := rfl
@[simp] theorem State.setDE_cartType (s : State) (v : Word) : (s.setDE v).cartType = s.cartType := rfl
@[simp] theorem State.setDE_romBank (s : State) (v : Word) : (s.setDE v).romBank = s.romBank := rfl
@[simp] theorem State.setDE_ramBank (s : State) (v : Word) : (s.setDE v).ramBank = s.ramBank := rfl
@[simp] theorem State.setDE_ramEnabled (s : State) (v : Word) : (s.setDE v).ramEnabled = s.ramEnabled := rfl
@[simp] theorem State.setDE_mbcMode (s : State) (v : Word) : (s.setDE v).mbcMode = s.mbcMode := rfl
@[simp] theorem State.setDE_divAcc (s : State) (v : Word) : (s.setDE v).divAcc = s.divAcc := rfl
@[simp] theorem State.setDE_timaAcc (s : State) (v : Word) : (s.setDE v).timaAcc = s.timaAcc := rfl
@[simp] theorem State.setDE_lcdAcc (s : State) (v : Word) : (s.setDE v).lcdAcc = s.lcdAcc := rfl
@[simp] theorem State.setDE_framebuffer (s : State) (v : Word) : (s.setDE v).framebuffer = s.framebuffer := rfl
@[simp] theorem State.setDE_lineShade (s : State) (v : Word) : (s.setDE v).lineShade = s.lineShade := rfl
@[simp] theorem State.setDE_buttons (s : State) (v : Word) : (s.setDE v).buttons = s.buttons := rfl
@[simp] theorem State.setDE_bootMapped (s : State) (v : Word) : (s.setDE v).bootMapped = s.bootMapped := rfl
@[simp] theorem State.setDE_cfg (s : State) (v : Word) : (s.setDE v).cfg = s.cfg := rfl
@[simp] theorem State.setDE_stepCycles (s : State) (v : Word) : (s.setDE v).stepCycles = s.stepCycles := rfl
@[simp] theorem State.setDE_outputs (s : State) (v : Word) : (s.setDE v).outputs = s.outputs := rfl

/-! ### setHL -/

@[simp] theorem State.setHL_a (s : State) (v : Word) : (s.setHL v).a = s.a := rfl
@[simp] theorem State.setHL_f (s : State) (v : Word) : (s.setHL v).f = s.f := rfl
@[simp] theorem State.setHL_b (s : State) (v : Word) : (s.setHL v).b = s.b := rfl
@[simp] theorem State.setHL_c (s : State) (v : Word) : (s.setHL v).c = s.c := rfl
@[simp] theorem State.setHL_d (s : State) (v : Word) : (s.setHL v).d = s.d := rfl
@[simp] theorem State.setHL_e (s : State) (v : Word) : (s.setHL v).e = s.e := rfl
@[simp] theorem State.setHL_h (s : State) (v : Word) : (s.setHL v).h = hiByte v := rfl
@[simp] theorem State.setHL_l (s : State) (v : Word) : (s.setHL v).l = loByte v := rfl
@[simp] theorem State.setHL_sp (s : State) (v : Word) : (s.setHL v).sp = s.sp := rfl
@[simp] theorem State.setHL_pc (s : State) (v : Word) : (s.setHL v).pc = s.pc := rfl
@[simp] theorem State.setHL_ime (s : State) (v : Word) : (s.setHL v).ime = s.ime := rfl
@[simp] theorem State.setHL_imePending (s : State) (v : Word) : (s.setHL v).imePending = s.imePending := rfl
@[simp] theorem State.setHL_halted (s : State) (v : Word) : (s.setHL v).halted = s.halted := rfl
@[simp] theorem State.setHL_stopped (s : State) (v : Word) : (s.setHL v).stopped = s.stopped := rfl
@[simp] theorem State.setHL_cycleCount (s : State) (v : Word) : (s.setHL v).cycleCount = s.cycleCount := rfl
@[simp] theorem State.setHL_fault (s : State) (v : Word) : (s.setHL v).fault = s.fault := rfl
@[simp] theorem State.setHL_instructionsExecuted (s : State) (v : Word) : (s.setHL v).instructionsExecuted = s.instructionsExecuted := rfl
@[simp] theorem State.setHL_mem (s : State) (v : Word) : (s.setHL v).mem = s.mem := rfl
@[simp] theorem State.setHL_rom (s : State) (v : Word) : (s.setHL v).rom = s.rom := rfl
@[simp] theorem State.setHL_ram (s : State) (v : Word) : (s.setHL v).ram = s.ram := rfl
@[simp] theorem State.setHL_cartType (s : State) (v : Word) : (s.setHL v).cartType = s.cartType := rfl
@[simp] theorem State.setHL_romBank (s : State) (v : Word) : (s.setHL v).romBank = s.romBank := rfl
@[simp] theorem State.setHL_ramBank (s : State) (v : Word) : (s.setHL v).ramBank = s.ramBank := rfl
@[simp] theorem State.setHL_ramEnabled (s : State) (v : Word) : (s.setHL v).ramEnabled = s.ramEnabled := rfl
@[simp] theorem State.setHL_mbcMode (s : State) (v : Word) : (s.setHL v).mbcMode = s.mbcMode := rfl
@[simp] theorem State.setHL_divAcc (s : State) (v : Word) : (s.setHL v).divAcc = s.divAcc := rfl
@[simp] theorem State.setHL_timaAcc (s : State) (v : Word) : (s.setHL v).timaAcc = s.timaAcc := rfl
@[simp] theorem State.setHL_lcdAcc (s : State) (v : Word) : (s.setHL v).lcdAcc = s.lcdAcc := rfl
@[simp] theorem State.setHL_framebuffer (s : State) (v : Word) : (s.setHL v).framebuffer = s.framebuffer := rfl
@[simp] theorem State.setHL_lineShade (s : State) (v : Word) : (s.setHL v).lineShade = s.lineShade := rfl
@[simp] theorem State.setHL_buttons (s : State) (v : Word) : (s.setHL v).buttons = s.buttons := rfl
@[simp] theorem State.setHL_bootMapped (s : State) (v : Word) : (s.setHL v).bootMapped = s.bootMapped := rfl
@[simp] theorem State.setHL_cfg (s : State) (v : Word) : (s.setHL v).cfg = s.cfg := rfl
@[simp] theorem State.setHL_stepCycles (s : State) (v : Word) : (s.setHL v).stepCycles = s.stepCycles := rfl
@[simp] theorem State.setHL_outputs (s : State) (v : Word) : (s.setHL v).outputs = s.outputs := rfl

/-! ### setAF -/

@[simp] theorem State.setAF_a (s : State) (v : Word) : (s.setAF v).a = hiByte v := rfl
@[simp] theorem State.setAF_f (s : State) (v : Word) : (s.setAF v).f = loByte v &&& 0xF0 := rfl
@[simp] theorem State.setAF_b (s : State) (v : Word) : (s.setAF v).b = s.b := rfl
@[simp] theorem State.setAF_c (s : State) (v : Word) : (s.setAF v).c = s.c := rfl
@[simp] theorem State.setAF_d (s : State) (v : Word) : (s.setAF v).d = s.d := rfl
@[simp] theorem State.setAF_e (s : State) (v : Word) : (s.setAF v).e = s.e := rfl
@[simp] theorem State.setAF_h (s : State) (v : Word) : (s.setAF v).h = s.h := rfl
@[simp] theorem State.setAF_l (s : State) (v : Word) : (s.setAF v).l = s.l := rfl
@[simp] theorem State.setAF_sp (s : State) (v : Word) : (s.setAF v).sp = s.sp := rfl
@[simp] theorem State.setAF_pc (s : State) (v : Word) : (s.setAF v).pc = s.pc := rfl
@[simp] theorem State.setAF_ime (s : State) (v : Word) : (s.setAF v).ime = s.ime := rfl
@[simp] theorem State.setAF_imePending (s : State) (v : Word) : (s.setAF v).imePending = s.imePending := rfl
@[simp] theorem State.setAF_halted (s : State) (v : Word) : (s.setAF v).halted = s.halted := rfl
@[simp] theorem State.setAF_stopped (s : State) (v : Word) : (s.setAF v).stopped = s.stopped := rfl
@[simp] theorem State.setAF_cycleCount (s : State) (v : Word) : (s.setAF v).cycleCount = s.cycleCount := rfl
@[simp] theorem State.setAF_fault (s : State) (v : Word) : (s.setAF v).fault = s.fault := rfl
@[simp] theorem State.setAF_instructionsExecuted (s : State) (v : Word) : (s.setAF v).instructionsExecuted = s.instructionsExecuted := rfl
@[simp] theorem State.setAF_mem (s : State) (v : Word) : (s.setAF v).mem = s.mem := rfl
@[simp] theorem State.setAF_rom (s : State) (v : Word) : (s.setAF v).rom = s.rom := rfl
@[simp] theorem State.setAF_ram (s : State) (v : Word) : (s.setAF v).ram = s.ram := rfl
@[simp] theorem State.setAF_cartType (s : State) (v : Word) : (s.setAF v).cartType = s.cartType := rfl
@[simp] theorem State.setAF_romBank (s : State) (v : Word) : (s.setAF v).romBank = s.romBank := rfl
@[simp] theorem State.setAF_ramBank (s : State) (v : Word) : (s.setAF v).ramBank = s.ramBank := rfl
@[simp] theorem State.setAF_ramEnabled (s : State) (v : Word) : (s.setAF v).ramEnabled = s.ramEnabled := rfl
@[simp] theorem State.setAF_mbcMode (s : State) (v : Word) : (s.setAF v).mbcMode = s.mbcMode := rfl
@[simp] theorem State.setAF_divAcc (s : State) (v : Word) : (s.setAF v).divAcc = s.divAcc := rfl
@[simp] theorem State.setAF_timaAcc (s : State) (v : Word) : (s.setAF v).timaAcc = s.timaAcc := rfl
@[simp] theorem State.setAF_lcdAcc (s : State) (v : Word) : (s.setAF v).lcdAcc = s.lcdAcc := rfl
@[simp] theorem State.setAF_framebuffer (s : State) (v : Word) : (s.setAF v).framebuffer = s.framebuffer := rfl
@[simp] theorem State.setAF_lineShade (s : State) (v : Word) : (s.setAF v).lineShade = s.lineShade := rfl
@[simp] theorem State.setAF_buttons (s : State) (v : Word) : (s.setAF v).buttons = s.buttons := rfl
@[simp] theorem State.setAF_bootMapped (s : State) (v : Word) : (s.setAF v).bootMapped = s.bootMapped := rfl
@[simp] theorem State.setAF_cfg (s : State) (v : Word) : (s.setAF v).cfg = s.cfg := rfl
@[simp] theorem State.setAF_stepCycles (s : State) (v : Word) : (s.setAF v).stepCycles = s.stepCycles := rfl
@[simp] theorem State.setAF_outputs (s : State) (v : Word) : (s.setAF v).outputs = s.outputs := rfl

/-! ### addCycles -/

@[simp] theorem State.addCycles_a (s : State) (n : Nat) : (s.addCycles n).a = s.a := rfl
@[simp] theorem State.addCycles_f (s : State) (n : Nat) : (s.addCycles n).f = s.f := rfl
@[simp] theorem State.addCycles_b (s : State) (n : Nat) : (s.addCycles n).b = s.b := rfl
@[simp] theorem State.addCycles_c (s : State) (n : Nat) : (s.addCycles n).c = s.c := rfl
@[simp] theorem State.addCycles_d (s : State) (n : Nat) : (s.addCycles n).d = s.d := rfl
@[simp] theorem State.addCycles_e (s : State) (n : Nat) : (s.addCycles n).e = s.e := rfl
@[simp] theorem State.addCycles_h (s : State) (n : Nat) : (s.addCycles n).h = s.h := rfl
@[simp] theorem State.addCycles_l (s : State) (n : Nat) : (s.addCycles n).l = s.l := rfl
@[simp] theorem State.addCycles_sp (s : State) (n : Nat) : (s.addCycles n).sp = s.sp := rfl
@[simp] theorem State.addCycles_pc (s : State) (n : Nat) : (s.addCycles n).pc = s.pc := rfl
@[simp] theorem State.addCycles_ime (s : State) (n : Nat) : (s.addCycles n).ime = s.ime := rfl
@[simp] theorem State.addCycles_imePending (s : State) (n : Nat) : (s.addCycles n).imePending = s.imePending := rfl
@[simp] theorem State.addCycles_halted (s : State) (n : Nat) : (s.addCycles n).halted = s.halted := rfl
@[simp] theorem State.addCycles_stopped (s : State) (n : Nat) : (s.addCycles n).stopped = s.stopped := rfl
@[simp] theorem State.addCycles_cycleCount (s : State) (n : Nat) : (s.addCycles n).cycleCount = s.cycleCount := rfl
@[simp] theorem State.addCycles_fault (s : State) (n : Nat) : (s.addCycles n).fault = s.fault := rfl
@[simp] theorem State.addCycles_instructionsExecuted (s : State) (n : Nat) : (s.addCycles n).instructionsExecuted = s.instructionsExecuted := rfl
@[simp] theorem State.addCycles_mem (s : State) (n : Nat) : (s.addCycles n).mem = s.mem := rfl
@[simp] theorem State.addCycles_rom (s : State) (n : Nat) : (s.addCycles n).rom = s.rom := rfl
@[simp] theorem State.addCycles_ram (s : State) (n : Nat) : (s.addCycles n).ram = s.ram := rfl
@[simp] theorem State.addCycles_cartType (s : State) (n : Nat) : (s.addCycles n).cartType = s.cartType := rfl
@[simp] theorem State.addCycles_romBank (s : State) (n : Nat) : (s.addCycles n).romBank = s.romBank := rfl
@[simp] theorem State.addCycles_ramBank (s : State) (n : Nat) : (s.addCycles n).ramBank = s.ramBank := rfl
@[simp] theorem State.addCycles_ramEnabled (s : State) (n : Nat) : (s.addCycles n).ramEnabled = s.ramEnabled := rfl
@[simp] theorem State.addCycles_mbcMode (s : State) (n : Nat) : (s.addCycles n).mbcMode = s.mbcMode := rfl
@[simp] theorem State.addCycles_divAcc (s : State) (n : Nat) : (s.addCycles n).divAcc = s.divAcc := rfl
@[simp] theorem State.addCycles_timaAcc (s : State) (n : Nat) : (s.addCycles n).timaAcc = s.timaAcc := rfl
@[simp] theorem State.addCycles_lcdAcc (s : State) (n : Nat) : (s.addCycles n).lcdAcc = s.lcdAcc := rfl
@[simp] theorem State.addCycles_framebuffer (s : State) (n : Nat) : (s.addCycles n).framebuffer = s.framebuffer := rfl
@[simp] theorem State.addCycles_lineShade (s : State) (n : Nat) : (s.addCycles n).lineShade = s.lineShade := rfl
@[simp] theorem State.addCycles_buttons (s : State) (n : Nat) : (s.addCycles n).buttons = s.buttons := rfl
@[simp] theorem State.addCycles_bootMapped (s : State) (n : Nat) : (s.addCycles n).bootMapped = s.bootMapped := rfl
@[simp] theorem State.addCycles_cfg (s : State) (n : Nat) : (s.addCycles n).cfg = s.cfg := rfl
@[simp] theorem State.addCycles_stepCycles (s : State) (n : Nat) : (s.addCycles n).stepCycles = s.stepCycles + n := rfl
@[simp] theorem State.addCycles_outputs (s : State) (n : Nat) : (s.addCycles n).outputs = s.outputs := rfl

/-! ### spend -/

@[simp] theorem State.spend_a (s : State) (k : CostKey) (n : Nat) : (s.spend k n).a = s.a := rfl
@[simp] theorem State.spend_f (s : State) (k : CostKey) (n : Nat) : (s.spend k n).f = s.f := rfl
@[simp] theorem State.spend_b (s : State) (k : CostKey) (n : Nat) : (s.spend k n).b = s.b := rfl
@[simp] theorem State.spend_c (s : State) (k : CostKey) (n : Nat) : (s.spend k n).c = s.c := rfl
@[simp] theorem State.spend_d (s : State) (k : CostKey) (n : Nat) : (s.spend k n).d = s.d := rfl
@[simp] theorem State.spend_e (s : State) (k : CostKey) (n : Nat) : (s.spend k n).e = s.e := rfl
@[simp] theorem State.spend_h (s : State) (k : CostKey) (n : Nat) : (s.spend k n).h = s.h := rfl
@[simp] theorem State.spend_l (s : State) (k : CostKey) (n : Nat) : (s.spend k n).l = s.l := rfl
@[simp] theorem State.spend_sp (s : State) (k : CostKey) (n : Nat) : (s.spend k n).sp = s.sp := rfl
@[simp] theorem State.spend_pc (s : State) (k : CostKey) (n : Nat) : (s.spend k n).pc = s.pc := rfl
@[simp] theorem State.spend_ime (s : State) (k : CostKey) (n : Nat) : (s.spend k n).ime = s.ime := rfl
@[simp] theorem State.spend_imePending (s : State) (k : CostKey) (n : Nat) : (s.spend k n).imePending = s.imePending := rfl
@[simp] theorem State.spend_halted (s : State) (k : CostKey) (n : Nat) : (s.spend k n).halted = s.halted := rfl
@[simp] theorem State.spend_stopped (s : State) (k : CostKey) (n : Nat) : (s.spend k n).stopped = s.stopped := rfl
@[simp] theorem State.spend_cycleCount (s : State) (k : CostKey) (n : Nat) : (s.spend k n).cycleCount = s.cycleCount := rfl
@[simp] theorem State.spend_fault (s : State) (k : CostKey) (n : Nat) : (s.spend k n).fault = s.fault := rfl
@[simp] theorem State.spend_instructionsExecuted (s : State) (k : CostKey) (n : Nat) : (s.spend k n).instructionsExecuted = s.instructionsExecuted := rfl
@[simp] theorem State.spend_mem (s : State) (k : CostKey) (n : Nat) : (s.spend k n).mem = s.mem := rfl
@[simp] theorem State.spend_rom (s : State) (k : CostKey) (n : Nat) : (s.spend k n).rom = s.rom := rfl
@[simp] theorem State.spend_ram (s : State) (k : CostKey) (n : Nat) : (s.spend k n).ram = s.ram := rfl
@[simp] theorem State.spend_cartType (s : State) (k : CostKey) (n : Nat) : (s.spend k n).cartType = s.cartType := rfl
@[simp] theorem State.spend_romBank (s : State) (k : CostKey) (n : Nat) : (s.spend k n).romBank = s.romBank := rfl
@[simp] theorem State.spend_ramBank (s : State) (k : CostKey) (n : Nat) : (s.spend k n).ramBank = s.ramBank := rfl
@[simp] theorem State.spend_ramEnabled (s : State) (k : CostKey) (n : Nat) : (s.spend k n).ramEnabled = s.ramEnabled := rfl
@[simp] theorem State.spend_mbcMode (s : State) (k : CostKey) (n : Nat) : (s.spend k n).mbcMode = s.mbcMode := rfl
@[simp] theorem State.spend_divAcc (s : State) (k : CostKey) (n : Nat) : (s.spend k n).divAcc = s.divAcc := rfl
@[simp] theorem State.spend_timaAcc (s : State) (k : CostKey) (n : Nat) : (s.spend k n).timaAcc = s.timaAcc := rfl
@[simp] theorem State.spend_lcdAcc (s : State) (k : CostKey) (n : Nat) : (s.spend k n).lcdAcc = s.lcdAcc := rfl
@[simp] theorem State.spend_framebuffer (s : State) (k : CostKey) (n : Nat) : (s.spend k n).framebuffer = s.framebuffer := rfl
@[simp] theorem State.spend_lineShade (s : State) (k : CostKey) (n : Nat) : (s.spend k n).lineShade = s.lineShade := rfl
@[simp] theorem State.spend_buttons (s : State) (k : CostKey) (n : Nat) : (s.spend k n).buttons = s.buttons := rfl
@[simp] theorem State.spend_bootMapped (s : State) (k : CostKey) (n : Nat) : (s.spend k n).bootMapped = s.bootMapped := rfl
@[simp] theorem State.spend_cfg (s : State) (k : CostKey) (n : Nat) : (s.spend k n).cfg = s.cfg := rfl
@[simp] theorem State.spend_stepCycles (s : State) (k : CostKey) (n : Nat) : (s.spend k n).stepCycles = s.stepCycles + cycleCost s.cfg k n := rfl
@[simp] theorem State.spend_outputs (s : State) (k : CostKey) (n : Nat) : (s.spend k n).outputs = s.outputs := rfl

/-! ### setFlags -/

@[simp] theorem State.setFlags_a (s : State) (z n h c : Bool) : (s.setFlags z n h c).a = s.a := rfl
@[simp] theorem State.setFlags_f (s : State) (z n h c : Bool) : (s.setFlags z n h c).f = packFlags z n h c := rfl
@[simp] theorem State.setFlags_b (s : State) (z n h c : Bool) : (s.setFlags z n h c).b = s.b := rfl
@[simp] theorem State.setFlags_c (s : State) (z n h c : Bool) : (s.setFlags z n h c).c = s.c := rfl
@[simp] theorem State.setFlags_d (s : State) (z n h c : Bool) : (s.setFlags z n h c).d = s.d := rfl
@[simp] theorem State.setFlags_e (s : State) (z n h c : Bool) : (s.setFlags z n h c).e = s.e := rfl
@[simp] theorem State.setFlags_h (s : State) (z n h c : Bool) : (s.setFlags z n h c).h = s.h := rfl
@[simp] theorem State.setFlags_l (s : State) (z n h c : Bool) : (s.setFlags z n h c).l = s.l := rfl
@[simp] theorem State.setFlags_sp (s : State) (z n h c : Bool) : (s.setFlags z n h c).sp = s.sp := rfl
@[simp] theorem State.setFlags_pc (s : State) (z n h c : Bool) : (s.setFlags z n h c).pc = s.pc := rfl
@[simp] theorem State.setFlags_ime (s : State) (z n h c : Bool) : (s.setFlags z n h c).ime = s.ime := rfl
@[simp] theorem State.setFlags_imePending (s : State) (z n h c : Bool) : (s.setFlags z n h c).imePending = s.imePending := rfl
@[simp] theorem State.setFlags_halted (s : State) (z n h c : Bool) : (s.setFlags z n h c).halted = s.halted := rfl
@[simp] theorem State.setFlags_stopped (s : State) (z n h c : Bool) : (s.setFlags z n h c).stopped = s.stopped := rfl
@[simp] theorem State.setFlags_cycleCount (s : State) (z n h c : Bool) : (s.setFlags z n h c).cycleCount = s.cycleCount := rfl
@[simp] theorem State.setFlags_fault (s : State) (z n h c : Bool) : (s.setFlags z n h c).fault = s.fault := rfl
@[simp] theorem State.setFlags_instructionsExecuted (s : State) (z n h c : Bool) : (s.setFlags z n h c).instructionsExecuted = s.instructionsExecuted := rfl
@[simp] theorem State.setFlags_mem (s : State) (z n h c : Bool) : (s.setFlags z n h c).mem = s.mem := rfl
@[simp] theorem State.setFlags_rom (s : State) (z n h c : Bool) : (s.setFlags z n h c).rom = s.rom := rfl
@[simp] theorem State.setFlags_ram (s : State) (z n h c : Bool) : (s.setFlags z n h c).ram = s.ram := rfl
@[simp] theorem State.setFlags_cartType (s : State) (z n h c : Bool) : (s.setFlags z n h c).cartType = s.cartType := rfl
@[simp] theorem State.setFlags_romBank (s : State) (z n h c : Bool) : (s.setFlags z n h c).romBank = s.romBank := rfl
@[simp] theorem State.setFlags_ramBank (s : State) (z n h c : Bool) : (s.setFlags z n h c).ramBank = s.ramBank := rfl
@[simp] theorem State.setFlags_ramEnabled (s : State) (z n h c : Bool) : (s.setFlags z n h c).ramEnabled = s.ramEnabled := rfl
@[simp] theorem State.setFlags_mbcMode (s : State) (z n h c : Bool) : (s.setFlags z n h c).mbcMode = s.mbcMode := rfl
@[simp] theorem State.setFlags_divAcc (s : State) (z n h c : Bool) : (s.setFlags z n h c).divAcc = s.divAcc := rfl
@[simp] theorem State.setFlags_timaAcc (s : State) (z n h c : Bool) : (s.setFlags z n h c).timaAcc = s.timaAcc := rfl
@[simp] theorem State.setFlags_lcdAcc (s : State) (z n h c : Bool) : (s.setFlags z n h c).lcdAcc = s.lcdAcc := rfl
@[simp] theorem State.setFlags_framebuffer (s : State) (z n h c : Bool) : (s.setFlags z n h c).framebuffer = s.framebuffer := rfl
@[simp] theorem State.setFlags_lineShade (s : State) (z n h c : Bool) : (s.setFlags z n h c).lineShade = s.lineShade := rfl
@[simp] theorem State.setFlags_buttons (s : State) (z n h c : Bool) : (s.setFlags z n h c).buttons = s.buttons := rfl
@[simp] theorem State.setFlags_bootMapped (s : State) (z n h c : Bool) : (s.setFlags z n h c).bootMapped = s.bootMapped := rfl
@[simp] theorem State.setFlags_cfg (s : State) (z n h c : Bool) : (s.setFlags z n h c).cfg = s.cfg := rfl
@[simp] theorem State.setFlags_stepCycles (s : State) (z n h c : Bool) : (s.setFlags z n h c).stepCycles = s.stepCycles := rfl
@[simp] theorem State.setFlags_outputs (s : State) (z n h c : Bool) : (s.setFlags z n h c).outputs = s.outputs := rfl

/-! ### popped -/

@[simp] theorem State.popped_a (s : State) : (s.popped).a = s.a := rfl
@[simp] theorem State.popped_f (s : State) : (s.popped).f = s.f := rfl
@[simp] theorem State.popped_b (s : State) : (s.popped).b = s.b := rfl
@[simp] theorem State.popped_c (s : State) : (s.popped).c = s.c := rfl
@[simp] theorem State.popped_d (s : State) : (s.popped).d = s.d := rfl
@[simp] theorem State.popped_e (s : State) : (s.popped).e = s.e := rfl
@[simp] theorem State.popped_h (s : State) : (s.popped).h = s.h := rfl
@[simp] theorem State.popped_l (s : State) : (s.popped).l = s.l := rfl
@[simp] theorem State.popped_sp (s : State) : (s.popped).sp = s.sp + 2 := rfl
@[simp] theorem State.popped_pc (s : State) : (s.popped).pc = s.pc := rfl
@[simp] theorem State.popped_ime (s : State) : (s.popped).ime = s.ime := rfl
@[simp] theorem State.popped_imePending (s : State) : (s.popped).imePending = s.imePending := rfl
@[simp] theorem State.popped_halted (s : State) : (s.popped).halted = s.halted := rfl
@[simp] theorem State.popped_stopped (s : State) : (s.popped).stopped = s.stopped := rfl
@[simp] theorem State.popped_cycleCount (s : State) : (s.popped).cycleCount = s.cycleCount := rfl
@[simp] theorem State.popped_fault (s : State) : (s.popped).fault = s.fault := rfl
@[simp] theorem State.popped_instructionsExecuted (s : State) : (s.popped).instructionsExecuted = s.instructionsExecuted := rfl
@[simp] theorem State.popped_mem (s : State) : (s.popped).mem = s.mem := rfl
@[simp] theorem State.popped_rom (s : State) : (s.popped).rom = s.rom := rfl
@[simp] theorem State.popped_ram (s : State) : (s.popped).ram = s.ram := rfl
@[simp] theorem State.popped_cartType (s : State) : (s.popped).cartType = s.cartType := rfl
@[simp] theorem State.popped_romBank (s : State) : (s.popped).romBank = s.romBank := rfl
@[simp] theorem State.popped_ramBank (s : State) : (s.popped).ramBank = s.ramBank := rfl
@[simp] theorem State.popped_ramEnabled (s : State) : (s.popped).ramEnabled = s.ramEnabled := rfl
@[simp] theorem State.popped_mbcMode (s : State) : (s.popped).mbcMode = s.mbcMode := rfl
@[simp] theorem State.popped_divAcc (s : State) : (s.popped).divAcc = s.divAcc := rfl
@[simp] theorem State.popped_timaAcc (s : State) : (s.popped).timaAcc = s.timaAcc := rfl
@[simp] theorem State.popped_lcdAcc (s : State) : (s.popped).lcdAcc = s.lcdAcc := rfl
@[simp] theorem State.popped_framebuffer (s : State) : (s.popped).framebuffer = s.framebuffer := rfl
@[simp] theorem State.popped_lineShade (s : State) : (s.popped).lineShade = s.lineShade := rfl
@[simp] theorem State.popped_buttons (s : State) : (s.popped).buttons = s.buttons := rfl
@[simp] theorem State.popped_bootMapped (s : State) : (s.popped).bootMapped = s.bootMapped := rfl
@[simp] theorem State.popped_cfg (s : State) : (s.popped).cfg = s.cfg := rfl
@[simp] theorem State.popped_stepCycles (s : State) : (s.popped).stepCycles = s.stepCycles := rfl
@[simp] theorem State.popped_outputs (s : State) : (s.popped).outputs = s.outputs := rfl

/-! ### jumpTo -/

@[simp] theorem State.jumpTo_a (s : State) (t : Word) : (s.jumpTo t).a = s.a := rfl
@[simp] theorem State.jumpTo_f (s : State) (t : Word) : (s.jumpTo t).f = s.f := rfl
@[simp] theorem State.jumpTo_b (s : State) (t : Word) : (s.jumpTo t).b = s.b := rfl
@[simp] theorem State.jumpTo_c (s : State) (t : Word) : (s.jumpTo t).c = s.c := rfl
@[simp] theorem State.jumpTo_d (s : State) (t : Word) : (s.jumpTo t).d = s.d := rfl
@[simp] theorem State.jumpTo_e (s : State) (t : Word) : (s.jumpTo t).e = s.e := rfl
@[simp] theorem State.jumpTo_h (s : State) (t : Word) : (s.jumpTo t).h = s.h := rfl
@[simp] theorem State.jumpTo_l (s : State) (t : Word) : (s.jumpTo t).l = s.l := rfl
@[simp] theorem State.jumpTo_sp (s : State) (t : Word) : (s.jumpTo t).sp = s.sp := rfl
@[simp] theorem State.jumpTo_pc (s : State) (t : Word) : (s.jumpTo t).pc = t := rfl
@[simp] theorem State.jumpTo_ime (s : State) (t : Word) : (s.jumpTo t).ime = s.ime := rfl
@[simp] theorem State.jumpTo_imePending (s : State) (t : Word) : (s.jumpTo t).imePending = s.imePending := rfl
@[simp] theorem State.jumpTo_halted (s : State) (t : Word) : (s.jumpTo t).halted = s.halted := rfl
@[simp] theorem State.jumpTo_stopped (s : State) (t : Word) : (s.jumpTo t).stopped = s.stopped := rfl
@[simp] theorem State.jumpTo_cycleCount (s : State) (t : Word) : (s.jumpTo t).cycleCount = s.cycleCount := rfl
@[simp] theorem State.jumpTo_fault (s : State) (t : Word) : (s.jumpTo t).fault = s.fault := rfl
@[simp] theorem State.jumpTo_instructionsExecuted (s : State) (t : Word) : (s.jumpTo t).instructionsExecuted = s.instructionsExecuted := rfl
@[simp] theorem State.jumpTo_mem (s : State) (t : Word) : (s.jumpTo t).mem = s.mem := rfl
@[simp] theorem State.jumpTo_rom (s : State) (t : Word) : (s.jumpTo t).rom = s.rom := rfl
@[simp] theorem State.jumpTo_ram (s : State) (t : Word) : (s.jumpTo t).ram = s.ram := rfl
@[simp] theorem State.jumpTo_cartType (s : State) (t : Word) : (s.jumpTo t).cartType = s.cartType := rfl
@[simp] theorem State.jumpTo_romBank (s : State) (t : Word) : (s.jumpTo t).romBank = s.romBank := rfl
@[simp] theorem State.jumpTo_ramBank (s : State) (t : Word) : (s.jumpTo t).ramBank = s.ramBank := rfl
@[simp] theorem State.jumpTo_ramEnabled (s : State) (t : Word) : (s.jumpTo t).ramEnabled = s.ramEnabled := rfl
@[simp] theorem State.jumpTo_mbcMode (s : State) (t : Word) : (s.jumpTo t).mbcMode = s.mbcMode := rfl
@[simp] theorem State.jumpTo_divAcc (s : State) (t : Word) : (s.jumpTo t).divAcc = s.divAcc := rfl
@[simp] theorem State.jumpTo_timaAcc (s : State) (t : Word) : (s.jumpTo t).timaAcc = s.timaAcc := rfl
@[simp] theorem State.jumpTo_lcdAcc (s : State) (t : Word) : (s.jumpTo t).lcdAcc = s.lcdAcc := rfl
@[simp] theorem State.jumpTo_framebuffer (s : State) (t : Word) : (s.jumpTo t).framebuffer = s.framebuffer := rfl
@[simp] theorem State.jumpTo_lineShade (s : State) (t : Word) : (s.jumpTo t).lineShade = s.lineShade := rfl
@[simp] theorem State.jumpTo_buttons (s : State) (t : Word) : (s.jumpTo t).buttons = s.buttons := rfl
@[simp] theorem State.jumpTo_bootMapped (s : State) (t : Word) : (s.jumpTo t).bootMapped = s.bootMapped := rfl
@[simp] theorem State.jumpTo_cfg (s : State) (t : Word) : (s.jumpTo t).cfg = s.cfg := rfl
@[simp] theorem State.jumpTo_stepCycles (s : State) (t : Word) : (s.jumpTo t).stepCycles = s.stepCycles := rfl
@[simp] theorem State.jumpTo_outputs (s : State) (t : Word) : (s.jumpTo t).outputs = s.outputs := rfl

/-! ### pokeMem -/

@[simp] theorem State.pokeMem_a (s : State) (x : Nat) (v : Byte) : (s.pokeMem x v).a = s.a := rfl
@[simp] theorem State.pokeMem_f (s : State) (x : Nat) (v : Byte) : (s.pokeMem x v).f = s.f := rfl
@[simp] theorem State.pokeMem_b (s : State) (x : Nat) (v : Byte) : (s.pokeMem x v).b = s.b := rfl
@[simp] theorem State.pokeMem_c (s : State) (x : Nat) (v : Byte) : (s.pokeMem x v).c = s.c := rfl
@[simp] theorem State.pokeMem_d (s : State) (x : Nat) (v : Byte) : (s.pokeMem x v).d = s.d := rfl
@[simp] theorem State.pokeMem_e (s : State) (x : Nat) (v : Byte) : (s.pokeMem x v).e = s.e := rfl
@[simp] theorem State.pokeMem_h (s : State) (x : Nat) (v : Byte) : (s.pokeMem x v).h = s.h := rfl
@[simp] theorem State.pokeMem_l (s : State) (x : Nat) (v : Byte) : (s.pokeMem x v).l = s.l := rfl
@[simp] theorem State.pokeMem_sp (s : State) (x : Nat) (v : Byte) : (s.pokeMem x v).sp = s.sp := rfl
@[simp] theorem State.pokeMem_pc (s : State) (x : Nat) (v : Byte) : (s.pokeMem x v).pc = s.pc := rfl
@[simp] theorem State.pokeMem_ime (s : State) (x : Nat) (v : Byte) : (s.pokeMem x v).ime = s.ime := rfl
@[simp] theorem State.pokeMem_imePending (s : State) (x : Nat) (v : Byte) : (s.pokeMem x v).imePending = s.imePending := rfl
@[simp] theorem State.pokeMem_halted (s : State) (x : Nat) (v : Byte) : (s.pokeMem x v).halted = s.halted := rfl
@[simp] theorem State.pokeMem_stopped (s : State) (x : Nat) (v : Byte) : (s.pokeMem x v).stopped = s.stopped := rfl
@[simp] theorem State.pokeMem_cycleCount (s : State) (x : Nat) (v : Byte) : (s.pokeMem x v).cycleCount = s.cycleCount := rfl
@[simp] theorem State.pokeMem_fault (s : State) (x : Nat) (v : Byte) : (s.pokeMem x v).fault = s.fault := rfl
@[simp] theorem State.pokeMem_instructionsExecuted (s : State) (x : Nat) (v : Byte) : (s.pokeMem x v).instructionsExecuted = s.instructionsExecuted := rfl
@[simp] theorem State.pokeMem_mem (s : State) (x : Nat) (v : Byte) : (s.pokeMem x v).mem = Memory.write (memDefault s.cfg) s.mem x v := rfl
@[simp] theorem State.pokeMem_rom (s : State) (x : Nat) (v : Byte) : (s.pokeMem x v).rom = s.rom := rfl
@[simp] theorem State.pokeMem_ram (s : State) (x : Nat) (v : Byte) : (s.pokeMem x v).ram = s.ram := rfl
@[simp] theorem State.pokeMem_cartType (s : State) (x : Nat) (v : Byte) : (s.pokeMem x v).cartType = s.cartType := rfl
@[simp] theorem State.pokeMem_romBank (s : State) (x : Nat) (v : Byte) : (s.pokeMem x v).romBank = s.romBank := rfl
@[simp] theorem State.pokeMem_ramBank (s : State) (x : Nat) (v : Byte) : (s.pokeMem x v).ramBank = s.ramBank := rfl
@[simp] theorem State.pokeMem_ramEnabled (s : State) (x : Nat) (v : Byte) : (s.pokeMem x v).ramEnabled = s.ramEnabled := rfl
@[simp] theorem State.pokeMem_mbcMode (s : State) (x : Nat) (v : Byte) : (s.pokeMem x v).mbcMode = s.mbcMode := rfl
@[simp] theorem State.pokeMem_divAcc (s : State) (x : Nat) (v : Byte) : (s.pokeMem x v).divAcc = s.divAcc := rfl
@[simp] theorem State.pokeMem_timaAcc (s : State) (x : Nat) (v : Byte) : (s.pokeMem x v).timaAcc = s.timaAcc := rfl
@[simp] theorem State.pokeMem_lcdAcc (s : State) (x : Nat) (v : Byte) : (s.pokeMem x v).lcdAcc = s.lcdAcc := rfl
@[simp] theorem State.pokeMem_framebuffer (s : State) (x : Nat) (v : Byte) : (s.pokeMem x v).framebuffer = s.framebuffer := rfl
@[simp] theorem State.pokeMem_lineShade (s : State) (x : Nat) (v : Byte) : (s.pokeMem x v).lineShade = s.lineShade := rfl
@[simp] theorem State.pokeMem_buttons (s : State) (x : Nat) (v : Byte) : (s.pokeMem x v).buttons = s.buttons := rfl
@[simp] theorem State.pokeMem_bootMapped (s : State) (x : Nat) (v : Byte) : (s.pokeMem x v).bootMapped = s.bootMapped := rfl
@[simp] theorem State.pokeMem_cfg (s : State) (x : Nat) (v : Byte) : (s.pokeMem x v).cfg = s.cfg := rfl
@[simp] theorem State.pokeMem_stepCycles (s : State) (x : Nat) (v : Byte) : (s.pokeMem x v).stepCycles = s.stepCycles := rfl
@[simp] theorem State.pokeMem_outputs (s : State) (x : Nat) (v : Byte) : (s.pokeMem x v).outputs = s.outputs := rfl

/-! ### pokeRam -/

@[simp] theorem State.pokeRam_a (s : State) (x : Nat) (v : Byte) : (s.pokeRam x v).a = s.a := rfl
@[simp] theorem State.pokeRam_f (s : State) (x : Nat) (v : Byte) : (s.pokeRam x v).f = s.f := rfl
@[simp] theorem State.pokeRam_b (s : State) (x : Nat) (v : Byte) : (s.pokeRam x v).b = s.b := rfl
@[simp] theorem State.pokeRam_c (s : State) (x : Nat) (v : Byte) : (s.pokeRam x v).c = s.c := rfl
@[simp] theorem State.pokeRam_d (s : State) (x : Nat) (v : Byte) : (s.pokeRam x v).d = s.d := rfl
@[simp] theorem State.pokeRam_e (s : State) (x : Nat) (v : Byte) : (s.pokeRam x v).e = s.e := rfl
@[simp] theorem State.pokeRam_h (s : State) (x : Nat) (v : Byte) : (s.pokeRam x v).h = s.h := rfl
@[simp] theorem State.pokeRam_l (s : State) (x : Nat) (v : Byte) : (s.pokeRam x v).l = s.l := rfl
@[simp] theorem State.pokeRam_sp (s : State) (x : Nat) (v : Byte) : (s.pokeRam x v).sp = s.sp := rfl
@[simp] theorem State.pokeRam_pc (s : State) (x : Nat) (v : Byte) : (s.pokeRam x v).pc = s.pc := rfl
@[simp] theorem State.pokeRam_ime (s : State) (x : Nat) (v : Byte) : (s.pokeRam x v).ime = s.ime := rfl
@[simp] theorem State.pokeRam_imePending (s : State) (x : Nat) (v : Byte) : (s.pokeRam x v).imePending = s.imePending := rfl
@[simp] theorem State.pokeRam_halted (s : State) (x : Nat) (v : Byte) : (s.pokeRam x v).halted = s.halted := rfl
@[simp] theorem State.pokeRam_stopped (s : State) (x : Nat) (v : Byte) : (s.pokeRam x v).stopped = s.stopped := rfl
@[simp] theorem State.pokeRam_cycleCount (s : State) (x : Nat) (v : Byte) : (s.pokeRam x v).cycleCount = s.cycleCount := rfl
@[simp] theorem State.pokeRam_fault (s : State) (x : Nat) (v : Byte) : (s.pokeRam x v).fault = s.fault := rfl
@[simp] theorem State.pokeRam_instructionsExecuted (s : State) (x : Nat) (v : Byte) : (s.pokeRam x v).instructionsExecuted = s.instructionsExecuted := rfl
@[simp] theorem State.pokeRam_mem (s : State) (x : Nat) (v : Byte) : (s.pokeRam x v).mem = s.mem := rfl
@[simp] theorem State.pokeRam_rom (s : State) (x : Nat) (v : Byte) : (s.pokeRam x v).rom = s.rom := rfl
@[simp] theorem State.pokeRam_ram (s : State) (x : Nat) (v : Byte) : (s.pokeRam x v).ram = Memory.write zeroDefault s.ram x v := rfl
@[simp] theorem State.pokeRam_cartType (s : State) (x : Nat) (v : Byte) : (s.pokeRam x v).cartType = s.cartType := rfl
@[simp] theorem State.pokeRam_romBank (s : State) (x : Nat) (v : Byte) : (s.pokeRam x v).romBank = s.romBank := rfl
@[simp] theorem State.pokeRam_ramBank (s : State) (x : Nat) (v : Byte) : (s.pokeRam x v).ramBank = s.ramBank := rfl
@[simp] theorem State.pokeRam_ramEnabled (s : State) (x : Nat) (v : Byte) : (s.pokeRam x v).ramEnabled = s.ramEnabled := rfl
@[simp] theorem State.pokeRam_mbcMode (s : State) (x : Nat) (v : Byte) : (s.pokeRam x v).mbcMode = s.mbcMode := rfl
@[simp] theorem State.pokeRam_divAcc (s : State) (x : Nat) (v : Byte) : (s.pokeRam x v).divAcc = s.divAcc := rfl
@[simp] theorem State.pokeRam_timaAcc (s : State) (x : Nat) (v : Byte) : (s.pokeRam x v).timaAcc = s.timaAcc := rfl
@[simp] theorem State.pokeRam_lcdAcc (s : State) (x : Nat) (v : Byte) : (s.pokeRam x v).lcdAcc = s.lcdAcc := rfl
@[simp] theorem State.pokeRam_framebuffer (s : State) (x : Nat) (v : Byte) : (s.pokeRam x v).framebuffer = s.framebuffer := rfl
@[simp] theorem State.pokeRam_lineShade (s : State) (x : Nat) (v : Byte) : (s.pokeRam x v).lineShade = s.lineShade := rfl
@[simp] theorem State.pokeRam_buttons (s : State) (x : Nat) (v : Byte) : (s.pokeRam x v).buttons = s.buttons := rfl
@[simp] theorem State.pokeRam_bootMapped (s : State) (x : Nat) (v : Byte) : (s.pokeRam x v).bootMapped = s.bootMapped := rfl
@[simp] theorem State.pokeRam_cfg (s : State) (x : Nat) (v : Byte) : (s.pokeRam x v).cfg = s.cfg := rfl
@[simp] theorem State.pokeRam_stepCycles (s : State) (x : Nat) (v : Byte) : (s.pokeRam x v).stepCycles = s.stepCycles := rfl
@[simp] theorem State.pokeRam_outputs (s : State) (x : Nat) (v : Byte) : (s.pokeRam x v).outputs = s.outputs := rfl

/-! ### requestInterrupt -/

@[simp] theorem State.requestInterrupt_a (s : State) (k : Nat) : (s.requestInterrupt k).a = s.a := rfl
@[simp] theorem State.requestInterrupt_f (s : State) (k : Nat) : (s.requestInterrupt k).f = s.f := rfl
@[simp] theorem State.requestInterrupt_b (s : State) (k : Nat) : (s.requestInterrupt k).b = s.b := rfl
@[simp] theorem State.requestInterrupt_c (s : State) (k : Nat) : (s.requestInterrupt k).c = s.c := rfl
@[simp] theorem State.requestInterrupt_d (s : State) (k : Nat) : (s.requestInterrupt k).d = s.d := rfl
@[simp] theorem State.requestInterrupt_e (s : State) (k : Nat) : (s.requestInterrupt k).e = s.e := rfl
@[simp] theorem State.requestInterrupt_h (s : State) (k : Nat) : (s.requestInterrupt k).h = s.h := rfl
@[simp] theorem State.requestInterrupt_l (s : State) (k : Nat) : (s.requestInterrupt k).l = s.l := rfl
@[simp] theorem State.requestInterrupt_sp (s : State) (k : Nat) : (s.requestInterrupt k).sp = s.sp := rfl
@[simp] theorem State.requestInterrupt_pc (s : State) (k : Nat) : (s.requestInterrupt k).pc = s.pc := rfl
@[simp] theorem State.requestInterrupt_ime (s : State) (k : Nat) : (s.requestInterrupt k).ime = s.ime := rfl
@[simp] theorem State.requestInterrupt_imePending (s : State) (k : Nat) : (s.requestInterrupt k).imePending = s.imePending := rfl
@[simp] theorem State.requestInterrupt_halted (s : State) (k : Nat) : (s.requestInterrupt k).halted = s.halted := rfl
@[simp] theorem State.requestInterrupt_stopped (s : State) (k : Nat) : (s.requestInterrupt k).stopped = s.stopped := rfl
@[simp] theorem State.requestInterrupt_cycleCount (s : State) (k : Nat) : (s.requestInterrupt k).cycleCount = s.cycleCount := rfl
@[simp] theorem State.requestInterrupt_fault (s : State) (k : Nat) : (s.requestInterrupt k).fault = s.fault := rfl
@[simp] theorem State.requestInterrupt_instructionsExecuted (s : State) (k : Nat) : (s.requestInterrupt k).instructionsExecuted = s.instructionsExecuted := rfl
@[simp] theorem State.requestInterrupt_mem (s : State) (k : Nat) : (s.requestInterrupt k).mem = Memory.write (memDefault s.cfg) s.mem 0xFF0F (s.memAt 0xFF0F ||| irqMask k) := rfl
@[simp] theorem State.requestInterrupt_rom (s : State) (k : Nat) : (s.requestInterrupt k).rom = s.rom := rfl
@[simp] theorem State.requestInterrupt_ram (s : State) (k : Nat) : (s.requestInterrupt k).ram = s.ram := rfl
@[simp] theorem State.requestInterrupt_cartType (s : State) (k : Nat) : (s.requestInterrupt k).cartType = s.cartType := rfl
@[simp] theorem State.requestInterrupt_romBank (s : State) (k : Nat) : (s.requestInterrupt k).romBank = s.romBank := rfl
@[simp] theorem State.requestInterrupt_ramBank (s : State) (k : Nat) : (s.requestInterrupt k).ramBank = s.ramBank := rfl
@[simp] theorem State.requestInterrupt_ramEnabled (s : State) (k : Nat) : (s.requestInterrupt k).ramEnabled = s.ramEnabled := rfl
@[simp] theorem State.requestInterrupt_mbcMode (s : State) (k : Nat) : (s.requestInterrupt k).mbcMode = s.mbcMode := rfl
@[simp] theorem State.requestInterrupt_divAcc (s : State) (k : Nat) : (s.requestInterrupt k).divAcc = s.divAcc := rfl
@[simp] theorem State.requestInterrupt_timaAcc (s : State) (k : Nat) : (s.requestInterrupt k).timaAcc = s.timaAcc := rfl
@[simp] theorem State.requestInterrupt_lcdAcc (s : State) (k : Nat) : (s.requestInterrupt k).lcdAcc = s.lcdAcc := rfl
@[simp] theorem State.requestInterrupt_framebuffer (s : State) (k : Nat) : (s.requestInterrupt k).framebuffer = s.framebuffer := rfl
@[simp] theorem State.requestInterrupt_lineShade (s : State) (k : Nat) : (s.requestInterrupt k).lineShade = s.lineShade := rfl
@[simp] theorem State.requestInterrupt_buttons (s : State) (k : Nat) : (s.requestInterrupt k).buttons = s.buttons := rfl
@[simp] theorem State.requestInterrupt_bootMapped (s : State) (k : Nat) : (s.requestInterrupt k).bootMapped = s.bootMapped := rfl
@[simp] theorem State.requestInterrupt_cfg (s : State) (k : Nat) : (s.requestInterrupt k).cfg = s.cfg := rfl
@[simp] theorem State.requestInterrupt_stepCycles (s : State) (k : Nat) : (s.requestInterrupt k).stepCycles = s.stepCycles := rfl
@[simp] theorem State.requestInterrupt_outputs (s : State) (k : Nat) : (s.requestInterrupt k).outputs = s.outputs := rfl

/-! ### raiseUnimplemented -/

@[simp] theorem State.raiseUnimplemented_a (s : State) (o : Byte) : (s.raiseUnimplemented o).a = s.a := rfl
@[simp] theorem State.raiseUnimplemented_f (s : State) (o : Byte) : (s.raiseUnimplemented o).f = s.f := rfl
@[simp] theorem State.raiseUnimplemented_b (s : State) (o : Byte) : (s.raiseUnimplemented o).b = s.b := rfl
@[simp] theorem State.raiseUnimplemented_c (s : State) (o : Byte) : (s.raiseUnimplemented o).c = s.c := rfl
@[simp] theorem State.raiseUnimplemented_d (s : State) (o : Byte) : (s.raiseUnimplemented o).d = s.d := rfl
@[simp] theorem State.raiseUnimplemented_e (s : State) (o : Byte) : (s.raiseUnimplemented o).e = s.e := rfl
@[simp] theorem State.raiseUnimplemented_h (s : State) (o : Byte) : (s.raiseUnimplemented o).h = s.h := rfl
@[simp] theorem State.raiseUnimplemented_l (s : State) (o : Byte) : (s.raiseUnimplemented o).l = s.l := rfl
@[simp] theorem State.raiseUnimplemented_sp (s : State) (o : Byte) : (s.raiseUnimplemented o).sp = s.sp := rfl
@[simp] theorem State.raiseUnimplemented_pc (s : State) (o : Byte) : (s.raiseUnimplemented o).pc = s.pc := rfl
@[simp] theorem State.raiseUnimplemented_ime (s : State) (o : Byte) : (s.raiseUnimplemented o).ime = s.ime := rfl
@[simp] theorem State.raiseUnimplemented_imePending (s : State) (o : Byte) : (s.raiseUnimplemented o).imePending = s.imePending := rfl
@[simp] theorem State.raiseUnimplemented_halted (s : State) (o : Byte) : (s.raiseUnimplemented o).halted = s.halted := rfl
@[simp] theorem State.raiseUnimplemented_stopped (s : State) (o : Byte) : (s.raiseUnimplemented o).stopped = s.stopped := rfl
@[simp] theorem State.raiseUnimplemented_cycleCount (s : State) (o : Byte) : (s.raiseUnimplemented o).cycleCount = s.cycleCount := rfl
@[simp] theorem State.raiseUnimplemented_fault (s : State) (o : Byte) : (s.raiseUnimplemented o).fault = some ⟨o, s.pc - 1⟩ := rfl
@[simp] theorem State.raiseUnimplemented_instructionsExecuted (s : State) (o : Byte) : (s.raiseUnimplemented o).instructionsExecuted = s.instructionsExecuted := rfl
@[simp] theorem State.raiseUnimplemented_mem (s : State) (o : Byte) : (s.raiseUnimplemented o).mem = s.mem := rfl
@[simp] theorem State.raiseUnimplemented_rom (s : State) (o : Byte) : (s.raiseUnimplemented o).rom = s.rom := rfl
@[simp] theorem State.raiseUnimplemented_ram (s : State) (o : Byte) : (s.raiseUnimplemented o).ram = s.ram := rfl
@[simp] theorem State.raiseUnimplemented_cartType (s : State) (o : Byte) : (s.raiseUnimplemented o).cartType = s.cartType := rfl
@[simp] theorem State.raiseUnimplemented_romBank (s : State) (o : Byte) : (s.raiseUnimplemented o).romBank = s.romBank := rfl
@[simp] theorem State.raiseUnimplemented_ramBank (s : State) (o : Byte) : (s.raiseUnimplemented o).ramBank = s.ramBank := rfl
@[simp] theorem State.raiseUnimplemented_ramEnabled (s : State) (o : Byte) : (s.raiseUnimplemented o).ramEnabled = s.ramEnabled := rfl
@[simp] theorem State.raiseUnimplemented_mbcMode (s : State) (o : Byte) : (s.raiseUnimplemented o).mbcMode = s.mbcMode := rfl
@[simp] theorem State.raiseUnimplemented_divAcc (s : State) (o : Byte) : (s.raiseUnimplemented o).divAcc = s.divAcc := rfl
@[simp] theorem State.raiseUnimplemented_timaAcc (s : State) (o : Byte) : (s.raiseUnimplemented o).timaAcc = s.timaAcc := rfl
@[simp] theorem State.raiseUnimplemented_lcdAcc (s : State) (o : Byte) : (s.raiseUnimplemented o).lcdAcc = s.lcdAcc := rfl
@[simp] theorem State.raiseUnimplemented_framebuffer (s : State) (o : Byte) : (s.raiseUnimplemented o).framebuffer = s.framebuffer := rfl
@[simp] theorem State.raiseUnimplemented_lineShade (s : State) (o : Byte) : (s.raiseUnimplemented o).lineShade = s.lineShade := rfl
@[simp] theorem State.raiseUnimplemented_buttons (s : State) (o : Byte) : (s.raiseUnimplemented o).buttons = s.buttons := rfl
@[simp] theorem State.raiseUnimplemented_bootMapped (s : State) (o : Byte) : (s.raiseUnimplemented o).bootMapped = s.bootMapped := rfl
@[simp] theorem State.raiseUnimplemented_cfg (s : State) (o : Byte) : (s.raiseUnimplemented o).cfg = s.cfg := rfl
@[simp] theorem State.raiseUnimplemented_stepCycles (s : State) (o : Byte) : (s.raiseUnimplemented o).stepCycles = s.stepCycles := rfl
@[simp] theorem State.raiseUnimplemented_outputs (s : State) (o : Byte) : (s.raiseUnimplemented o).outputs = s.outputs := rfl

/-! ### presentFrame -/

@[simp] theorem State.presentFrame_a (s : State) : (s.presentFrame).a = s.a := rfl
@[simp] theorem State.presentFrame_f (s : State) : (s.presentFrame).f = s.f := rfl
@[simp] theorem State.presentFrame_b (s : State) : (s.presentFrame).b = s.b := rfl
@[simp] theorem State.presentFrame_c (s : State) : (s.presentFrame).c = s.c := rfl
@[simp] theorem State.presentFrame_d (s : State) : (s.presentFrame).d = s.d := rfl
@[simp] theorem State.presentFrame_e (s : State) : (s.presentFrame).e = s.e := rfl
@[simp] theorem State.presentFrame_h (s : State) : (s.presentFrame).h = s.h := rfl
@[simp] theorem State.presentFrame_l (s : State) : (s.presentFrame).l = s.l := rfl
@[simp] theorem State.presentFrame_sp (s : State) : (s.presentFrame).sp = s.sp := rfl
@[simp] theorem State.presentFrame_pc (s : State) : (s.presentFrame).pc = s.pc := rfl
@[simp] theorem State.presentFrame_ime (s : State) : (s.presentFrame).ime = s.ime := rfl
@[simp] theorem State.presentFrame_imePending (s : State) : (s.presentFrame).imePending = s.imePending := rfl
@[simp] theorem State.presentFrame_halted (s : State) : (s.presentFrame).halted = s.halted := rfl
@[simp] theorem State.presentFrame_stopped (s : State) : (s.presentFrame).stopped = s.stopped := rfl
@[simp] theorem State.presentFrame_cycleCount (s : State) : (s.presentFrame).cycleCount = s.cycleCount := rfl
@[simp] theorem State.presentFrame_fault (s : State) : (s.presentFrame).fault = s.fault := rfl
@[simp] theorem State.presentFrame_instructionsExecuted (s : State) : (s.presentFrame).instructionsExecuted = s.instructionsExecuted := rfl
@[simp] theorem State.presentFrame_mem (s : State) : (s.presentFrame).mem = s.mem := rfl
@[simp] theorem State.presentFrame_rom (s : State) : (s.presentFrame).rom = s.rom := rfl
@[simp] theorem State.presentFrame_ram (s : State) : (s.presentFrame).ram = s.ram := rfl
@[simp] theorem State.presentFrame_cartType (s : State) : (s.presentFrame).cartType = s.cartType := rfl
@[simp] theorem State.presentFrame_romBank (s : State) : (s.presentFrame).romBank = s.romBank := rfl
@[simp] theorem State.presentFrame_ramBank (s : State) : (s.presentFrame).ramBank = s.ramBank := rfl
@[simp] theorem State.presentFrame_ramEnabled (s : State) : (s.presentFrame).ramEnabled = s.ramEnabled := rfl
@[simp] theorem State.presentFrame_mbcMode (s : State) : (s.presentFrame).mbcMode = s.mbcMode := rfl
@[simp] theorem State.presentFrame_divAcc (s : State) : (s.presentFrame).divAcc = s.divAcc := rfl
@[simp] theorem State.presentFrame_timaAcc (s : State) : (s.presentFrame).timaAcc = s.timaAcc := rfl
@[simp] theorem State.presentFrame_lcdAcc (s : State) : (s.presentFrame).lcdAcc = s.lcdAcc := rfl
@[simp] theorem State.presentFrame_framebuffer (s : State) : (s.presentFrame).framebuffer = s.framebuffer := rfl
@[simp] theorem State.presentFrame_lineShade (s : State) : (s.presentFrame).lineShade = s.lineShade := rfl
@[simp] theorem State.presentFrame_buttons (s : State) : (s.presentFrame).buttons = s.buttons := rfl
@[simp] theorem State.presentFrame_bootMapped (s : State) : (s.presentFrame).bootMapped = s.bootMapped := rfl
@[simp] theorem State.presentFrame_cfg (s : State) : (s.presentFrame).cfg = s.cfg := rfl
@[simp] theorem State.presentFrame_stepCycles (s : State) : (s.presentFrame).stepCycles = s.stepCycles := rfl
@[simp] theorem State.presentFrame_outputs (s : State) : (s.presentFrame).outputs = .present s.framebuffer :: s.outputs := rfl

/-! ### Register writes: everything but the eight registers and SP stays -/

@[simp] theorem State.setReg_f (s : State) (r : Reg8) (v : Byte) : (s.setReg r v).f = s.f := by cases r <;> rfl
@[simp] theorem State.setReg_sp (s : State) (r : Reg8) (v : Byte) : (s.setReg r v).sp = s.sp := by cases r <;> rfl
@[simp] theorem State.setReg_pc (s : State) (r : Reg8) (v : Byte) : (s.setReg r v).pc = s.pc := by cases r <;> rfl
@[simp] theorem State.setReg_ime (s : State) (r : Reg8) (v : Byte) : (s.setReg r v).ime = s.ime := by cases r <;> rfl
@[simp] theorem State.setReg_imePending (s : State) (r : Reg8) (v : Byte) : (s.setReg r v).imePending = s.imePending := by cases r <;> rfl
@[simp] theorem State.setReg_halted (s : State) (r : Reg8) (v : Byte) : (s.setReg r v).halted = s.halted := by cases r <;> rfl
@[simp] theorem State.setReg_stopped (s : State) (r : Reg8) (v : Byte) : (s.setReg r v).stopped = s.stopped := by cases r <;> rfl
@[simp] theorem State.setReg_cycleCount (s : State) (r : Reg8) (v : Byte) : (s.setReg r v).cycleCount = s.cycleCount := by cases r <;> rfl
@[simp] theorem State.setReg_fault (s : State) (r : Reg8) (v : Byte) : (s.setReg r v).fault = s.fault := by cases r <;> rfl
@[simp] theorem State.setReg_instructionsExecuted (s : State) (r : Reg8) (v : Byte) : (s.setReg r v).instructionsExecuted = s.instructionsExecuted := by cases r <;> rfl
@[simp] theorem State.setReg_mem (s : State) (r : Reg8) (v : Byte) : (s.setReg r v).mem = s.mem := by cases r <;> rfl
@[simp] theorem State.setReg_rom (s : State) (r : Reg8) (v : Byte) : (s.setReg r v).rom = s.rom := by cases r <;> rfl
@[simp] theorem State.setReg_ram (s : State) (r : Reg8) (v : Byte) : (s.setReg r v).ram = s.ram := by cases r <;> rfl
@[simp] theorem State.setReg_cartType (s : State) (r : Reg8) (v : Byte) : (s.setReg r v).cartType = s.cartType := by cases r <;> rfl
@[simp] theorem State.setReg_romBank (s : State) (r : Reg8) (v : Byte) : (s.setReg r v).romBank = s.romBank := by cases r <;> rfl
@[simp] theorem State.setReg_ramBank (s : State) (r : Reg8) (v : Byte) : (s.setReg r v).ramBank = s.ramBank := by cases r <;> rfl
@[simp] theorem State.setReg_ramEnabled (s : State) (r : Reg8) (v : Byte) : (s.setReg r v).ramEnabled = s.ramEnabled := by cases r <;> rfl
@[simp] theorem State.setReg_mbcMode (s : State) (r : Reg8) (v : Byte) : (s.setReg r v).mbcMode = s.mbcMode := by cases r <;> rfl
@[simp] theorem State.setReg_divAcc (s : State) (r : Reg8) (v : Byte) : (s.setReg r v).divAcc = s.divAcc := by cases r <;> rfl
@[simp] theorem State.setReg_timaAcc (s : State) (r : Reg8) (v : Byte) : (s.setReg r v).timaAcc = s.timaAcc := by cases r <;> rfl
@[simp] theorem State.setReg_lcdAcc (s : State) (r : Reg8) (v : Byte) : (s.setReg r v).lcdAcc = s.lcdAcc := by cases r <;> rfl
@[simp] theorem State.setReg_framebuffer (s : State) (r : Reg8) (v : Byte) : (s.setReg r v).framebuffer = s.framebuffer := by cases r <;> rfl
@[simp] theorem State.setReg_lineShade (s : State) (r : Reg8) (v : Byte) : (s.setReg r v).lineShade = s.lineShade := by cases r <;> rfl
@[simp] theorem State.setReg_buttons (s : State) (r : Reg8) (v : Byte) : (s.setReg r v).buttons = s.buttons := by cases r <;> rfl
@[simp] theorem State.setReg_bootMapped (s : State) (r : Reg8) (v : Byte) : (s.setReg r v).bootMapped = s.bootMapped := by cases r <;> rfl
@[simp] theorem State.setReg_cfg (s : State) (r : Reg8) (v : Byte) : (s.setReg r v).cfg = s.cfg := by cases r <;> rfl
@[simp] theorem State.setReg_stepCycles (s : State) (r : Reg8) (v : Byte) : (s.setReg r v).stepCycles = s.stepCycles := by cases r <;> rfl
@[simp] theorem State.setReg_outputs (s : State) (r : Reg8) (v : Byte) : (s.setReg r v).outputs = s.outputs := by cases r <;> rfl

@[simp] theorem State.setPair_f (s : State) (r : Pair) (v : Word) : (s.setPair r v).f = s.f := by cases r <;> rfl
@[simp] theorem State.setPair_pc (s : State) (r : Pair) (v : Word) : (s.setPair r v).pc = s.pc := by cases r <;> rfl
@[simp] theorem State.setPair_ime (s : State) (r : Pair) (v : Word) : (s.setPair r v).ime = s.ime := by cases r <;> rfl
@[simp] theorem State.setPair_imePending (s : State) (r : Pair) (v : Word) : (s.setPair r v).imePending = s.imePending := by cases r <;> rfl
@[simp] theorem State.setPair_halted (s : State) (r : Pair) (v : Word) : (s.setPair r v).halted = s.halted := by cases r <;> rfl
@[simp] theorem State.setPair_stopped (s : State) (r : Pair) (v : Word) : (s.setPair r v).stopped = s.stopped := by cases r <;> rfl
@[simp] theorem State.setPair_cycleCount (s : State) (r : Pair) (v : Word) : (s.setPair r v).cycleCount = s.cycleCount := by cases r <;> rfl
@[simp] theorem State.setPair_fault (s : State) (r : Pair) (v : Word) : (s.setPair r v).fault = s.fault := by cases r <;> rfl
@[simp] theorem State.setPair_instructionsExecuted (s : State) (r : Pair) (v : Word) : (s.setPair r v).instructionsExecuted = s.instructionsExecuted := by cases r <;> rfl
@[simp] theorem State.setPair_mem (s : State) (r : Pair) (v : Word) : (s.setPair r v).mem = s.mem := by cases r <;> rfl
@[simp] theorem State.setPair_rom (s : State) (r : Pair) (v : Word) : (s.setPair r v).rom = s.rom := by cases r <;> rfl
@[simp] theorem State.setPair_ram (s : State) (r : Pair) (v : Word) : (s.setPair r v).ram = s.ram := by cases r <;> rfl
@[simp] theorem State.setPair_cartType (s : State) (r : Pair) (v : Word) : (s.setPair r v).cartType = s.cartType := by cases r <;> rfl
@[simp] theorem State.setPair_romBank (s : State) (r : Pair) (v : Word) : (s.setPair r v).romBank = s.romBank := by cases r <;> rfl
@[simp] theorem State.setPair_ramBank (s : State) (r : Pair) (v : Word) : (s.setPair r v).ramBank = s.ramBank := by cases r <;> rfl
@[simp] theorem State.setPair_ramEnabled (s : State) (r : Pair) (v : Word) : (s.setPair r v).ramEnabled = s.ramEnabled := by cases r <;> rfl
@[simp] theorem State.setPair_mbcMode (s : State) (r : Pair) (v : Word) : (s.setPair r v).mbcMode = s.mbcMode := by cases r <;> rfl
@[simp] theorem State.setPair_divAcc (s : State) (r : Pair) (v : Word) : (s.setPair r v).divAcc = s.divAcc := by cases r <;> rfl
@[simp] theorem State.setPair_timaAcc (s : State) (r : Pair) (v : Word) : (s.setPair r v).timaAcc = s.timaAcc := by cases r <;> rfl
@[simp] theorem State.setPair_lcdAcc (s : State) (r : Pair) (v : Word) : (s.setPair r v).lcdAcc = s.lcdAcc := by cases r <;> rfl
@[simp] theorem State.setPair_framebuffer (s : State) (r : Pair) (v : Word) : (s.setPair r v).framebuffer = s.framebuffer := by cases r <;> rfl
@[simp] theorem State.setPair_lineShade (s : State) (r : Pair) (v : Word) : (s.setPair r v).lineShade = s.lineShade := by cases r <;> rfl
@[simp] theorem State.setPair_buttons (s : State) (r : Pair) (v : Word) : (s.setPair r v).buttons = s.buttons := by cases r <;> rfl
@[simp] theorem State.setPair_bootMapped (s : State) (r : Pair) (v : Word) : (s.setPair r v).bootMapped = s.bootMapped := by cases r <;> rfl
@[simp] theorem State.setPair_cfg (s : State) (r : Pair) (v : Word) : (s.setPair r v).cfg = s.cfg := by cases r <;> rfl
@[simp] theorem State.setPair_stepCycles (s : State) (r : Pair) (v : Word) : (s.setPair r v).stepCycles = s.stepCycles := by cases r <;> rfl
@[simp] theorem State.setPair_outputs (s : State) (r : Pair) (v : Word) : (s.setPair r v).outputs = s.outputs := by cases r <;> rfl

@[simp] theorem State.setStackPair_sp (s : State) (r : StackPair) (v : Word) : (s.setStackPair r v).sp = s.sp := by cases r <;> rfl
@[simp] theorem State.setStackPair_pc (s : State) (r : StackPair) (v : Word) : (s.setStackPair r v).pc = s.pc := by cases r <;> rfl
@[simp] theorem State.setStackPair_ime (s : State) (r : StackPair) (v : Word) : (s.setStackPair r v).ime = s.ime := by cases r <;> rfl
@[simp] theorem State.setStackPair_imePending (s : State) (r : StackPair) (v : Word) : (s.setStackPair r v).imePending = s.imePending := by cases r <;> rfl
@[simp] theorem State.setStackPair_halted (s : State) (r : StackPair) (v : Word) : (s.setStackPair r v).halted = s.halted := by cases r <;> rfl
@[simp] theorem State.setStackPair_stopped (s : State) (r : StackPair) (v : Word) : (s.setStackPair r v).stopped = s.stopped := by cases r <;> rfl
@[simp] theorem State.setStackPair_cycleCount (s : State) (r : StackPair) (v : Word) : (s.setStackPair r v).cycleCount = s.cycleCount := by cases r <;> rfl
@[simp] theorem State.setStackPair_fault (s : State) (r : StackPair) (v : Word) : (s.setStackPair r v).fault = s.fault := by cases r <;> rfl
@[simp] theorem State.setStackPair_instructionsExecuted (s : State) (r : StackPair) (v : Word) : (s.setStackPair r v).instructionsExecuted = s.instructionsExecuted := by cases r <;> rfl
@[simp] theorem State.setStackPair_mem (s : State) (r : StackPair) (v : Word) : (s.setStackPair r v).mem = s.mem := by cases r <;> rfl
@[simp] theorem State.setStackPair_rom (s : State) (r : StackPair) (v : Word) : (s.setStackPair r v).rom = s.rom := by cases r <;> rfl
@[simp] theorem State.setStackPair_ram (s : State) (r : StackPair) (v : Word) : (s.setStackPair r v).ram = s.ram := by cases r <;> rfl
@[simp] theorem State.setStackPair_cartType (s : State) (r : StackPair) (v : Word) : (s.setStackPair r v).cartType = s.cartType := by cases r <;> rfl
@[simp] theorem State.setStackPair_romBank (s : State) (r : StackPair) (v : Word) : (s.setStackPair r v).romBank = s.romBank := by cases r <;> rfl
@[simp] theorem State.setStackPair_ramBank (s : State) (r : StackPair) (v : Word) : (s.setStackPair r v).ramBank = s.ramBank := by cases r <;> rfl
@[simp] theorem State.setStackPair_ramEnabled (s : State) (r : StackPair) (v : Word) : (s.setStackPair r v).ramEnabled = s.ramEnabled := by cases r <;> rfl
@[simp] theorem State.setStackPair_mbcMode (s : State) (r : StackPair) (v : Word) : (s.setStackPair r v).mbcMode = s.mbcMode := by cases r <;> rfl
@[simp] theorem State.setStackPair_divAcc (s : State) (r : StackPair) (v : Word) : (s.setStackPair r v).divAcc = s.divAcc := by cases r <;> rfl
@[simp] theorem State.setStackPair_timaAcc (s : State) (r : StackPair) (v : Word) : (s.setStackPair r v).timaAcc = s.timaAcc := by cases r <;> rfl
@[simp] theorem State.setStackPair_lcdAcc (s : State) (r : StackPair) (v : Word) : (s.setStackPair r v).lcdAcc = s.lcdAcc := by cases r <;> rfl
@[simp] theorem State.setStackPair_framebuffer (s : State) (r : StackPair) (v : Word) : (s.setStackPair r v).framebuffer = s.framebuffer := by cases r <;> rfl
@[simp] theorem State.setStackPair_lineShade (s : State) (r : StackPair) (v : Word) : (s.setStackPair r v).lineShade = s.lineShade := by cases r <;> rfl
@[simp] theorem State.setStackPair_buttons (s : State) (r : StackPair) (v : Word) : (s.setStackPair r v).buttons = s.buttons := by cases r <;> rfl
@[simp] theorem State.setStackPair_bootMapped (s : State) (r : StackPair) (v : Word) : (s.setStackPair r v).bootMapped = s.bootMapped := by cases r <;> rfl
@[simp] theorem State.setStackPair_cfg (s : State) (r : StackPair) (v : Word) : (s.setStackPair r v).cfg = s.cfg := by cases r <;> rfl
@[simp] theorem State.setStackPair_stepCycles (s : State) (r : StackPair) (v : Word) : (s.setStackPair r v).stepCycles = s.stepCycles := by cases r <;> rfl
@[simp] theorem State.setStackPair_outputs (s : State) (r : StackPair) (v : Word) : (s.setStackPair r v).outputs = s.outputs := by cases r <;> rfl

/-- A register reads back what was written to it. -/
@[simp] theorem State.reg_setReg_same (s : State) (r : Reg8) (v : Byte) : (s.setReg r v).reg r = v := by cases r <;> rfl

/-- A write of a register leaves the others. -/
theorem State.reg_setReg_other (s : State) {r q : Reg8} (v : Byte) (h : q ≠ r) : (s.setReg r v).reg q = s.reg q := by
  cases r <;> cases q <;> first | rfl | exact absurd rfl h

/-! ### The CPU half of a state -/

/-- `s` with the registers, latches, fault and cycle delta of `c`: what an instruction changes besides its bus writes. -/
def State.withCpu (s c : State) : State :=
  { s with
    a := c.a
    f := c.f
    b := c.b
    c := c.c
    d := c.d
    e := c.e
    h := c.h
    l := c.l
    sp := c.sp
    pc := c.pc
    ime := c.ime
    imePending := c.imePending
    halted := c.halted
    stopped := c.stopped
    fault := c.fault
    stepCycles := c.stepCycles }

@[simp] theorem State.withCpu_a (s c : State) : (s.withCpu c).a = c.a := rfl
@[simp] theorem State.withCpu_f (s c : State) : (s.withCpu c).f = c.f := rfl
@[simp] theorem State.withCpu_b (s c : State) : (s.withCpu c).b = c.b := rfl
@[simp] theorem State.withCpu_c (s c : State) : (s.withCpu c).c = c.c := rfl
@[simp] theorem State.withCpu_d (s c : State) : (s.withCpu c).d = c.d := rfl
@[simp] theorem State.withCpu_e (s c : State) : (s.withCpu c).e = c.e := rfl
@[simp] theorem State.withCpu_h (s c : State) : (s.withCpu c).h = c.h := rfl
@[simp] theorem State.withCpu_l (s c : State) : (s.withCpu c).l = c.l := rfl
@[simp] theorem State.withCpu_sp (s c : State) : (s.withCpu c).sp = c.sp := rfl
@[simp] theorem State.withCpu_pc (s c : State) : (s.withCpu c).pc = c.pc := rfl
@[simp] theorem State.withCpu_ime (s c : State) : (s.withCpu c).ime = c.ime := rfl
@[simp] theorem State.withCpu_imePending (s c : State) : (s.withCpu c).imePending = c.imePending := rfl
@[simp] theorem State.withCpu_halted (s c : State) : (s.withCpu c).halted = c.halted := rfl
@[simp] theorem State.withCpu_stopped (s c : State) : (s.withCpu c).stopped = c.stopped := rfl
@[simp] theorem State.withCpu_cycleCount (s c : State) : (s.withCpu c).cycleCount = s.cycleCount := rfl
@[simp] theorem State.withCpu_fault (s c : State) : (s.withCpu c).fault = c.fault := rfl
@[simp] theorem State.withCpu_instructionsExecuted (s c : State) : (s.withCpu c).instructionsExecuted = s.instructionsExecuted := rfl
@[simp] theorem State.withCpu_mem (s c : State) : (s.withCpu c).mem = s.mem := rfl
@[simp] theorem State.withCpu_rom (s c : State) : (s.withCpu c).rom = s.rom := rfl
@[simp] theorem State.withCpu_ram (s c : State) : (s.withCpu c).ram = s.ram := rfl
@[simp] theorem State.withCpu_cartType (s c : State) : (s.withCpu c).cartType = s.cartType := rfl
@[simp] theorem State.withCpu_romBank (s c : State) : (s.withCpu c).romBank = s.romBank := rfl
@[simp] theorem State.withCpu_ramBank (s c : State) : (s.withCpu c).ramBank = s.ramBank := rfl
@[simp] theorem State.withCpu_ramEnabled (s c : State) : (s.withCpu c).ramEnabled = s.ramEnabled := rfl
@[simp] theorem State.withCpu_mbcMode (s c : State) : (s.withCpu c).mbcMode = s.mbcMode := rfl
@[simp] theorem State.withCpu_divAcc (s c : State) : (s.withCpu c).divAcc = s.divAcc := rfl
@[simp] theorem State.withCpu_timaAcc (s c : State) : (s.withCpu c).timaAcc = s.timaAcc := rfl
@[simp] theorem State.withCpu_lcdAcc (s c : State) : (s.withCpu c).lcdAcc = s.lcdAcc := rfl
@[simp] theorem State.withCpu_framebuffer (s c : State) : (s.withCpu c).framebuffer = s.framebuffer := rfl
@[simp] theorem State.withCpu_lineShade (s c : State) : (s.withCpu c).lineShade = s.lineShade := rfl
@[simp] theorem State.withCpu_buttons (s c : State) : (s.withCpu c).buttons = s.buttons := rfl
@[simp] theorem State.withCpu_bootMapped (s c : State) : (s.withCpu c).bootMapped = s.bootMapped := rfl
@[simp] theorem State.withCpu_cfg (s c : State) : (s.withCpu c).cfg = s.cfg := rfl
@[simp] theorem State.withCpu_stepCycles (s c : State) : (s.withCpu c).stepCycles = c.stepCycles := rfl
@[simp] theorem State.withCpu_outputs (s c : State) : (s.withCpu c).outputs = s.outputs := rfl

@[simp] theorem State.withCpu_memAt (s c : State) (x : Nat) : (s.withCpu c).memAt x = s.memAt x := rfl
@[simp] theorem State.withCpu_romAt (s c : State) (x : Nat) : (s.withCpu c).romAt x = s.romAt x := rfl
@[simp] theorem State.withCpu_ramAt (s c : State) (x : Nat) : (s.withCpu c).ramAt x = s.ramAt x := rfl
@[simp] theorem State.withCpu_readByte (s c : State) (x : Word) : (s.withCpu c).readByte x = s.readByte x := rfl
@[simp] theorem State.withCpu_self (s : State) : s.withCpu s = s := rfl
@[simp] theorem State.withCpu_withCpu (s c d : State) : (s.withCpu c).withCpu d = s.withCpu d := rfl
theorem State.withCpu_right (s c d : State) : s.withCpu (c.withCpu d) = s.withCpu d := rfl
@[simp] theorem State.withCpu_pokeMem (s c : State) (x : Nat) (v : Byte) : (s.withCpu c).pokeMem x v = (s.pokeMem x v).withCpu c := rfl
@[simp] theorem State.withCpu_pokeRam (s c : State) (x : Nat) (v : Byte) : (s.withCpu c).pokeRam x v = (s.pokeRam x v).withCpu c := rfl

end Sys2Proof.Machine
end

