-- ==== Sys2Proof/Laws/Ops.lean ====
section
/-! SUPPORT. What each shared operation over memory and registers can do, said once: the bus write, OAM DMA, the boot unmap,
push, interrupt entry. -/

namespace Sys2Proof.Machine

/-! ### The halves of a pair -/

@[simp] theorem hiByte_mkWord (hi lo : Byte) : hiByte (mkWord hi lo) = hi := BitVec.extractLsb'_append_eq_left
@[simp] theorem loByte_mkWord (hi lo : Byte) : loByte (mkWord hi lo) = lo := BitVec.extractLsb'_append_eq_right

/-! ### The cost of an opcode -/

theorem cycleCost_of_unnamed {c : Config} {k : CostKey} (n : Nat) (h : c.cycleTable.lookup k = none) : cycleCost c k n = n := by
  simp [cycleCost, h]

theorem cycleCost_of_named {c : Config} {k : CostKey} {m : Nat} (n : Nat) (h : c.cycleTable.lookup k = some m) :
    cycleCost c k n = m := by
  simp [cycleCost, h]

/-! ### Two ways to say what a chain of updates touched -/

/-- `t` is `s` but for the bytes of `mem` in `A`: what a raw writer of `mem` can do. -/
structure OnlyMem (A : Nat → Prop) (s t : State) : Prop where
  rest : t = { s with mem := t.mem }
  bytes : ∀ x, ¬ A x → t.memAt x = s.memAt x
  wf : (∀ x, A x → x < 0x10000) → Memory.wf (memDefault s.cfg) 0x10000 s.mem = true →
    Memory.wf (memDefault t.cfg) 0x10000 t.mem = true

theorem OnlyMem.refl (A : Nat → Prop) (s : State) : OnlyMem A s s := ⟨rfl, fun _ _ => rfl, fun _ h => h⟩

theorem OnlyMem.trans {A : Nat → Prop} {s t u : State} (h : OnlyMem A s t) (k : OnlyMem A t u) : OnlyMem A s u :=
  ⟨by rw [k.rest, h.rest], fun x hx => (k.bytes x hx).trans (h.bytes x hx), fun hA hm => k.wf hA (h.wf hA hm)⟩

theorem OnlyMem.mono {A B : Nat → Prop} {s t : State} (hAB : ∀ x, A x → B x) (h : OnlyMem A s t) : OnlyMem B s t := by
  refine ⟨h.rest, fun x hx => h.bytes x (fun hA => hx (hAB x hA)), fun hB hm => h.wf (fun x hA => hB x (hAB x hA)) hm⟩

/-- A raw write touches its own byte. -/
theorem onlyMem_pokeMem {A : Nat → Prop} (s : State) (a : Nat) (v : Byte) (ha : A a) : OnlyMem A s (s.pokeMem a v) := by
  refine ⟨rfl, fun x hx => State.memAt_pokeMem_other s v (fun h => hx (h ▸ ha)), fun hA hm => ?_⟩
  exact Memory.wf_write _ _ _ _ _ (hA a ha) hm

theorem onlyMem_foldl_pokeMem {A : Nat → Prop} (addr : Nat → Nat) (val : State → Nat → Byte) (l : List Nat) (s : State)
    (h : ∀ i ∈ l, A (addr i)) : OnlyMem A s (l.foldl (fun t i => t.pokeMem (addr i) (val t i)) s) := by
  induction l generalizing s with
  | nil => exact OnlyMem.refl A s
  | cons i l ih =>
    exact (onlyMem_pokeMem s _ _ (h i (by simp))).trans (ih _ (fun j hj => h j (by simp [hj])))

/-- OAM DMA touches OAM only (R111). -/
theorem onlyMem_oamDma (s : State) (v : Byte) : OnlyMem (fun x => 0xFE00 ≤ x ∧ x ≤ 0xFE9F) s (s.oamDma v) := by
  refine onlyMem_foldl_pokeMem (fun i => 0xFE00 + i) _ _ s (fun i hi => ?_)
  simp only [List.mem_range] at hi
  constructor <;> omega

theorem OnlyMem.bootUnmapped {A : Nat → Prop} {s t : State} (h : OnlyMem A s t) :
    OnlyMem A { s with bootMapped := false } { t with bootMapped := false } :=
  ⟨congrArg (fun u : State => { u with bootMapped := false }) h.rest, h.bytes, h.wf⟩

/-- The boot unmap touches 0000–00FF, and clears `bootMapped` (R112). -/
theorem onlyMem_bootUnmap (s : State) :
    OnlyMem (fun x => x < 0x100) { s with bootMapped := false } s.bootUnmap := by
  exact (onlyMem_foldl_pokeMem (fun i => i) (fun t i => t.romAt i) (List.range 256) s
    (fun i hi => List.mem_range.1 hi)).bootUnmapped

/-- A raw write of `mem` sees the CPU half as it is. -/
theorem State.withCpu_foldl (f : State → Nat → State) (hf : ∀ s c i, f (s.withCpu c) i = (f s i).withCpu c) (l : List Nat)
    (s c : State) : l.foldl f (s.withCpu c) = (l.foldl f s).withCpu c := by
  induction l generalizing s with
  | nil => rfl
  | cons i l ih => rw [List.foldl_cons, List.foldl_cons, hf, ih]

@[simp] theorem State.withCpu_oamDma (s c : State) (v : Byte) : (s.withCpu c).oamDma v = (s.oamDma v).withCpu c :=
  State.withCpu_foldl _ (fun _ _ _ => rfl) _ s c

theorem State.withCpu_clearBootMapped (t c : State) :
    { t.withCpu c with bootMapped := false } = ({ t with bootMapped := false } : State).withCpu c := rfl

@[simp] theorem State.withCpu_bootUnmap (s c : State) : (s.withCpu c).bootUnmap = s.bootUnmap.withCpu c :=
  (congrArg (fun t : State => { t with bootMapped := false }) (State.withCpu_foldl _ (fun _ _ _ => rfl) _ s c)).trans
    (State.withCpu_clearBootMapped _ c)

@[simp] theorem State.withCpu_serialHook (s c : State) (v : Byte) : (s.withCpu c).serialHook v = (s.serialHook v).withCpu c := by
  by_cases h : v = s.cfg.serialHookValue <;> simp only [State.serialHook, State.withCpu_cfg, h, if_true, if_false]
  all_goals rfl

theorem State.ite_withCpu {p : Prop} [Decidable p] {x' y' x y c : State} (hx : x' = x.withCpu c) (hy : y' = y.withCpu c) :
    (if p then x' else y') = (if p then x else y).withCpu c := by
  split <;> assumption

@[simp] theorem State.withCpu_selectUpperBits (s c : State) (v : Byte) :
    (s.withCpu c).selectUpperBits v = (s.selectUpperBits v).withCpu c := State.ite_withCpu rfl rfl

/-- A bus write neither reads nor writes the CPU half (R100). -/
@[simp] theorem State.withCpu_writeByte (s c : State) (x : Word) (v : Byte) :
    (s.withCpu c).writeByte x v = (s.writeByte x v).withCpu c := by
  unfold State.writeByte
  refine State.ite_withCpu ?_ (State.ite_withCpu ?_ (State.ite_withCpu ?_ (State.ite_withCpu ?_ (State.ite_withCpu ?_
    (State.ite_withCpu (State.ite_withCpu ?_ ?_) (State.ite_withCpu ?_ (State.ite_withCpu ?_ (State.ite_withCpu ?_
    (State.ite_withCpu ?_ (State.ite_withCpu ?_ (State.ite_withCpu ?_ (State.ite_withCpu ?_
    (State.ite_withCpu (State.ite_withCpu ?_ ?_) ?_)))))))))))))
  case refine_4 => exact State.withCpu_selectUpperBits s c v
  case refine_11 => exact State.withCpu_serialHook (s.pokeMem _ v) c v
  case refine_14 => exact State.withCpu_oamDma (s.pokeMem _ v) c v
  case refine_15 => exact State.withCpu_bootUnmap (s.pokeMem _ v) c
  case refine_8 => rw [State.withCpu_pokeMem, State.withCpu_pokeMem]
  case refine_9 => rw [State.withCpu_pokeMem, State.withCpu_pokeMem]
  case refine_12 => exact State.withCpu_pokeMem s c _ _
  case refine_16 => exact State.withCpu_pokeMem s c _ _
  case refine_17 => exact State.withCpu_pokeMem s c _ _
  all_goals rfl

/-- Every way a bus write can go (R100), guards included. -/
theorem State.writeByte_elim {P : State → Prop} (s : State) (x : Word) (v : Byte)
    (ignored : (x.toNat ≤ 0x7FFF ∧ s.cartType = 0x00) ∨ (0xA000 ≤ x.toNat ∧ x.toNat ≤ 0xBFFF ∧ s.ramEnabled = false) ∨
      (0xFEA0 ≤ x.toNat ∧ x.toNat ≤ 0xFEFF) ∨ x.toNat = 0xFF44 → P s)
    (ramEnable : x.toNat ≤ 0x1FFF → s.cartType ≠ 0x00 → P (s.ramEnableWrite v))
    (romBank : 0x2000 ≤ x.toNat → x.toNat ≤ 0x3FFF → s.cartType ≠ 0x00 → P (s.selectRomBank v))
    (upperBits : 0x4000 ≤ x.toNat → x.toNat ≤ 0x5FFF → s.cartType ≠ 0x00 → P (s.selectUpperBits v))
    (mode : 0x6000 ≤ x.toNat → x.toNat ≤ 0x7FFF → s.cartType ≠ 0x00 → P (s.setMbcMode v))
    (cartRam : 0xA000 ≤ x.toNat → x.toNat ≤ 0xBFFF → s.ramEnabled = true → P (s.pokeRam (s.ramOffset x.toNat) v))
    (work : 0xC000 ≤ x.toNat → x.toNat ≤ 0xDDFF → P ((s.pokeMem x.toNat v).pokeMem (x.toNat + 0x2000) v))
    (echo : 0xE000 ≤ x.toNat → x.toNat ≤ 0xFDFF → P ((s.pokeMem x.toNat v).pokeMem (x.toNat - 0x2000) v))
    (serial : x.toNat = 0xFF02 → P ((s.pokeMem x.toNat v).serialHook v))
    (div : x.toNat = 0xFF04 → P (s.pokeMem 0xFF04 0x00))
    (dma : x.toNat = 0xFF46 → P ((s.pokeMem x.toNat v).oamDma v))
    (unmap : 0xFF4C ≤ x.toNat → x.toNat ≤ 0xFF7F → v = 0x01 → P ((s.pokeMem x.toNat v).bootUnmap))
    (plain : 0x8000 ≤ x.toNat → ¬(0xA000 ≤ x.toNat ∧ x.toNat ≤ 0xBFFF) → ¬(0xC000 ≤ x.toNat ∧ x.toNat ≤ 0xDDFF) →
      ¬(0xE000 ≤ x.toNat ∧ x.toNat ≤ 0xFDFF) → ¬(0xFEA0 ≤ x.toNat ∧ x.toNat ≤ 0xFEFF) → x.toNat ≠ 0xFF02 →
      x.toNat ≠ 0xFF04 → x.toNat ≠ 0xFF44 → x.toNat ≠ 0xFF46 → ¬(0xFF4C ≤ x.toNat ∧ x.toNat ≤ 0xFF7F ∧ v = 0x01) →
      P (s.pokeMem x.toNat v)) : P (s.writeByte x v) := by
  refine iteInduction (fun h => ignored (.inl h)) (fun h0 => ?_)
  refine iteInduction (fun h => ramEnable h (fun hc => h0 ⟨by omega, hc⟩)) (fun h1 => ?_)
  refine iteInduction (fun h => romBank (by omega) h (fun hc => h0 ⟨by omega, hc⟩)) (fun h2 => ?_)
  refine iteInduction (fun h => upperBits (by omega) h (fun hc => h0 ⟨by omega, hc⟩)) (fun h3 => ?_)
  refine iteInduction (fun h => mode (by omega) h (fun hc => h0 ⟨by omega, hc⟩)) (fun h4 => ?_)
  refine iteInduction (fun h => iteInduction (fun he => cartRam h.1 h.2 he)
    (fun he => ignored (.inr (.inl ⟨h.1, h.2, by simpa using he⟩)))) (fun h5 => ?_)
  refine iteInduction (fun h => work h.1 h.2) (fun h6 => ?_)
  refine iteInduction (fun h => echo h.1 h.2) (fun h7 => ?_)
  refine iteInduction (fun h => ignored (.inr (.inr (.inl h)))) (fun h8 => ?_)
  refine iteInduction (fun h => serial h) (fun h9 => ?_)
  refine iteInduction (fun h => div h) (fun h10 => ?_)
  refine iteInduction (fun h => ignored (.inr (.inr (.inr h)))) (fun h11 => ?_)
  refine iteInduction (fun h => dma h) (fun h12 => ?_)
  refine iteInduction (fun h => iteInduction (fun hv => unmap h.1 h.2 hv)
    (fun hv => plain (by omega) h5 h6 h7 h8 h9 h10 h11 h12 (fun k => hv k.2.2)))
    (fun h13 => plain (by omega) h5 h6 h7 h8 h9 h10 h11 h12 (fun k => h13 ⟨k.1, k.2.1⟩))

end Sys2Proof.Machine
end

