-- ==== Sys2Proof/Laws/Bus.lean ====
section
/-! SUPPORT. What a bus write, a push and a raw device write leave alone, and which parts of the invariant they keep. -/

namespace Sys2Proof.Machine

/-! ### A bus write changes the bus half only -/

/-- `t` is `s` but for the parts a bus write can change. -/
def BusOnly (s t : State) : Prop :=
  t = { s with
    mem := t.mem
    ram := t.ram
    romBank := t.romBank
    ramBank := t.ramBank
    ramEnabled := t.ramEnabled
    mbcMode := t.mbcMode
    bootMapped := t.bootMapped
    outputs := t.outputs }

theorem BusOnly.refl (s : State) : BusOnly s s := rfl

theorem BusOnly.trans {s t u : State} (h : BusOnly s t) (k : BusOnly t u) : BusOnly s u := by
  unfold BusOnly at *
  rw [k, h]

theorem OnlyMem.busOnly {A : Nat → Prop} {s t : State} (h : OnlyMem A s t) : BusOnly s t := by
  unfold BusOnly
  rw [h.rest]

theorem State.pokeMem_busOnly (s : State) (a : Nat) (v : Byte) : BusOnly s (s.pokeMem a v) := rfl

/-- R100: a bus write changes memory, the bank controller, `bootMapped` and the host outputs, and nothing else. -/
theorem State.writeByte_busOnly (s : State) (x : Word) (v : Byte) : BusOnly s (s.writeByte x v) := by
  have poke := s.pokeMem_busOnly x.toNat v
  refine State.writeByte_elim s x v (fun _ => rfl) (fun _ _ => rfl) (fun _ _ _ => rfl) (fun _ _ _ => ?_) (fun _ _ _ => rfl)
    (fun _ _ _ => rfl) (fun _ _ => poke.trans (State.pokeMem_busOnly _ _ _)) (fun _ _ => poke.trans (State.pokeMem_busOnly _ _ _))
    (fun _ => poke.trans ?_) (fun _ => s.pokeMem_busOnly _ _) (fun _ => poke.trans (onlyMem_oamDma _ v).busOnly)
    (fun _ _ _ => poke.trans ?_) (fun _ _ _ _ _ _ _ _ _ _ => poke)
  · unfold State.selectUpperBits
    split <;> rfl
  · unfold State.serialHook
    split <;> rfl
  · exact BusOnly.trans (t := { s.pokeMem x.toNat v with bootMapped := false }) rfl (onlyMem_bootUnmap _).busOnly

@[simp] theorem State.writeByte_a (s : State) (x : Word) (v : Byte) : (s.writeByte x v).a = s.a :=
  (congrArg State.a (s.writeByte_busOnly x v)).trans rfl
@[simp] theorem State.writeByte_f (s : State) (x : Word) (v : Byte) : (s.writeByte x v).f = s.f :=
  (congrArg State.f (s.writeByte_busOnly x v)).trans rfl
@[simp] theorem State.writeByte_b (s : State) (x : Word) (v : Byte) : (s.writeByte x v).b = s.b :=
  (congrArg State.b (s.writeByte_busOnly x v)).trans rfl
@[simp] theorem State.writeByte_c (s : State) (x : Word) (v : Byte) : (s.writeByte x v).c = s.c :=
  (congrArg State.c (s.writeByte_busOnly x v)).trans rfl
@[simp] theorem State.writeByte_d (s : State) (x : Word) (v : Byte) : (s.writeByte x v).d = s.d :=
  (congrArg State.d (s.writeByte_busOnly x v)).trans rfl
@[simp] theorem State.writeByte_e (s : State) (x : Word) (v : Byte) : (s.writeByte x v).e = s.e :=
  (congrArg State.e (s.writeByte_busOnly x v)).trans rfl
@[simp] theorem State.writeByte_h (s : State) (x : Word) (v : Byte) : (s.writeByte x v).h = s.h :=
  (congrArg State.h (s.writeByte_busOnly x v)).trans rfl
@[simp] theorem State.writeByte_l (s : State) (x : Word) (v : Byte) : (s.writeByte x v).l = s.l :=
  (congrArg State.l (s.writeByte_busOnly x v)).trans rfl
@[simp] theorem State.writeByte_sp (s : State) (x : Word) (v : Byte) : (s.writeByte x v).sp = s.sp :=
  (congrArg State.sp (s.writeByte_busOnly x v)).trans rfl
@[simp] theorem State.writeByte_pc (s : State) (x : Word) (v : Byte) : (s.writeByte x v).pc = s.pc :=
  (congrArg State.pc (s.writeByte_busOnly x v)).trans rfl
@[simp] theorem State.writeByte_ime (s : State) (x : Word) (v : Byte) : (s.writeByte x v).ime = s.ime :=
  (congrArg State.ime (s.writeByte_busOnly x v)).trans rfl
@[simp] theorem State.writeByte_imePending (s : State) (x : Word) (v : Byte) : (s.writeByte x v).imePending = s.imePending :=
  (congrArg State.imePending (s.writeByte_busOnly x v)).trans rfl
@[simp] theorem State.writeByte_halted (s : State) (x : Word) (v : Byte) : (s.writeByte x v).halted = s.halted :=
  (congrArg State.halted (s.writeByte_busOnly x v)).trans rfl
@[simp] theorem State.writeByte_stopped (s : State) (x : Word) (v : Byte) : (s.writeByte x v).stopped = s.stopped :=
  (congrArg State.stopped (s.writeByte_busOnly x v)).trans rfl
@[simp] theorem State.writeByte_cycleCount (s : State) (x : Word) (v : Byte) : (s.writeByte x v).cycleCount = s.cycleCount :=
  (congrArg State.cycleCount (s.writeByte_busOnly x v)).trans rfl
@[simp] theorem State.writeByte_fault (s : State) (x : Word) (v : Byte) : (s.writeByte x v).fault = s.fault :=
  (congrArg State.fault (s.writeByte_busOnly x v)).trans rfl
@[simp] theorem State.writeByte_instructionsExecuted (s : State) (x : Word) (v : Byte) : (s.writeByte x v).instructionsExecuted = s.instructionsExecuted :=
  (congrArg State.instructionsExecuted (s.writeByte_busOnly x v)).trans rfl
@[simp] theorem State.writeByte_rom (s : State) (x : Word) (v : Byte) : (s.writeByte x v).rom = s.rom :=
  (congrArg State.rom (s.writeByte_busOnly x v)).trans rfl
@[simp] theorem State.writeByte_cartType (s : State) (x : Word) (v : Byte) : (s.writeByte x v).cartType = s.cartType :=
  (congrArg State.cartType (s.writeByte_busOnly x v)).trans rfl
@[simp] theorem State.writeByte_divAcc (s : State) (x : Word) (v : Byte) : (s.writeByte x v).divAcc = s.divAcc :=
  (congrArg State.divAcc (s.writeByte_busOnly x v)).trans rfl
@[simp] theorem State.writeByte_timaAcc (s : State) (x : Word) (v : Byte) : (s.writeByte x v).timaAcc = s.timaAcc :=
  (congrArg State.timaAcc (s.writeByte_busOnly x v)).trans rfl
@[simp] theorem State.writeByte_lcdAcc (s : State) (x : Word) (v : Byte) : (s.writeByte x v).lcdAcc = s.lcdAcc :=
  (congrArg State.lcdAcc (s.writeByte_busOnly x v)).trans rfl
@[simp] theorem State.writeByte_framebuffer (s : State) (x : Word) (v : Byte) : (s.writeByte x v).framebuffer = s.framebuffer :=
  (congrArg State.framebuffer (s.writeByte_busOnly x v)).trans rfl
@[simp] theorem State.writeByte_lineShade (s : State) (x : Word) (v : Byte) : (s.writeByte x v).lineShade = s.lineShade :=
  (congrArg State.lineShade (s.writeByte_busOnly x v)).trans rfl
@[simp] theorem State.writeByte_buttons (s : State) (x : Word) (v : Byte) : (s.writeByte x v).buttons = s.buttons :=
  (congrArg State.buttons (s.writeByte_busOnly x v)).trans rfl
@[simp] theorem State.writeByte_cfg (s : State) (x : Word) (v : Byte) : (s.writeByte x v).cfg = s.cfg :=
  (congrArg State.cfg (s.writeByte_busOnly x v)).trans rfl
@[simp] theorem State.writeByte_stepCycles (s : State) (x : Word) (v : Byte) : (s.writeByte x v).stepCycles = s.stepCycles :=
  (congrArg State.stepCycles (s.writeByte_busOnly x v)).trans rfl

@[simp] theorem State.writeByte_romAt (s : State) (x : Word) (v : Byte) (a : Nat) : (s.writeByte x v).romAt a = s.romAt a := by
  simp [State.romAt]

/-! ### The parts of the invariant that concern the bus -/

/-- What a bus write keeps. -/
structure State.BusInv (s : State) : Prop where
  memories : s.MemoriesWf
  echo : s.EchoMirrored
  bank : s.BankReachable
  cartridge : s.CartridgeSupported
  line : s.LineInRange

/-- A raw write outside working RAM, echo RAM and LY keeps them. -/
theorem State.BusInv.onlyMem {A : Nat → Prop} {s t : State} (h : s.BusInv) (k : OnlyMem A s t)
    (hA : ∀ x, A x → x < 0x10000 ∧ ¬(0xC000 ≤ x ∧ x ≤ 0xDDFF) ∧ ¬(0xE000 ≤ x ∧ x ≤ 0xFDFF) ∧ x ≠ 0xFF44) : t.BusInv := by
  have hrest := k.rest
  have hcfg : t.cfg = s.cfg := (congrArg State.cfg hrest).trans rfl
  have h_rom : t.rom = s.rom := (congrArg State.rom hrest).trans rfl
  have h_ram : t.ram = s.ram := (congrArg State.ram hrest).trans rfl
  have h_romBank : t.romBank = s.romBank := (congrArg State.romBank hrest).trans rfl
  have hct : t.cartType = s.cartType := (congrArg State.cartType hrest).trans rfl
  have hre : t.ramEnabled = s.ramEnabled := (congrArg State.ramEnabled hrest).trans rfl
  refine ⟨⟨?_, ?_, ?_⟩, fun a h1 h2 => ?_, ?_, ?_, ?_⟩
  · exact k.wf (fun x hx => (hA x hx).1) h.memories.mem
  · rw [h_rom]; exact h.memories.rom
  · rw [h_ram]; exact h.memories.ram
  · rw [k.bytes a (fun hx => (hA a hx).2.1 ⟨h1, h2⟩), k.bytes (a + 0x2000) (fun hx => (hA _ hx).2.2.1 (by omega))]
    exact h.echo a h1 h2
  · unfold State.BankReachable
    rw [h_romBank]; exact h.bank
  · unfold State.CartridgeSupported
    rw [hct, hre]; exact h.cartridge
  · unfold State.LineInRange
    rw [k.bytes 0xFF44 (fun hx => (hA _ hx).2.2.2 rfl)]; exact h.line

/-- The remap never leaves an unreachable bank (R120). -/
theorem remapBank_reachable (r : BitVec 7) :
    remapBank r ≠ 0x00 ∧ remapBank r ≠ 0x20 ∧ remapBank r ≠ 0x40 ∧ remapBank r ≠ 0x60 := by
  revert r; decide

theorem State.ramOffset_lt (s : State) {a : Nat} (h1 : 0xA000 ≤ a) (h2 : a ≤ 0xBFFF) : s.ramOffset a < 0x8000 := by
  have := s.ramBank.isLt
  unfold State.ramOffset
  omega

/-- A bus write keeps the bus part of the invariant (R100 to R123). -/
theorem State.BusInv.writeByte {s : State} (h : s.BusInv) (x : Word) (v : Byte) : (s.writeByte x v).BusInv := by
  have hx : x.toNat < 0x10000 := x.isLt
  obtain ⟨hm, he, hb, hc, hl⟩ := h
  have one : ∀ (A : Nat → Prop) (t : State), OnlyMem A s t →
      (∀ x, A x → x < 0x10000 ∧ ¬(0xC000 ≤ x ∧ x ≤ 0xDDFF) ∧ ¬(0xE000 ≤ x ∧ x ≤ 0xFDFF) ∧ x ≠ 0xFF44) → t.BusInv :=
    fun A t k hA => State.BusInv.onlyMem ⟨hm, he, hb, hc, hl⟩ k hA
  have pair : ∀ a, 0xC000 ≤ a → a ≤ 0xDDFF → ∀ t : State,
      (∀ y, t.memAt y = if y = a ∨ y = a + 0x2000 then v else s.memAt y) →
      OnlyMem (fun y => y = a ∨ y = a + 0x2000) s t → t.BusInv := by
    intro a h1 h2 t hbytes k
    have hrest := k.rest
    have hcfg : t.cfg = s.cfg := (congrArg State.cfg hrest).trans rfl
    have h_rom : t.rom = s.rom := (congrArg State.rom hrest).trans rfl
    have h_ram : t.ram = s.ram := (congrArg State.ram hrest).trans rfl
    have h_romBank : t.romBank = s.romBank := (congrArg State.romBank hrest).trans rfl
    have hct : t.cartType = s.cartType := (congrArg State.cartType hrest).trans rfl
    have hre : t.ramEnabled = s.ramEnabled := (congrArg State.ramEnabled hrest).trans rfl
    refine ⟨⟨k.wf (fun y hy => by omega) hm.mem, ?_, ?_⟩, fun y hy1 hy2 => ?_, ?_, ?_, ?_⟩
    · rw [h_rom]; exact hm.rom
    · rw [h_ram]; exact hm.ram
    · rw [hbytes, hbytes, he y hy1 hy2]
      by_cases hya : y = a
      · simp [hya]
      · simp [hya, show y ≠ a + 0x2000 by omega, show y + 0x2000 ≠ a by omega]
    · unfold State.BankReachable
      rw [h_romBank]; exact hb
    · unfold State.CartridgeSupported
      rw [hct, hre]; exact hc
    · unfold State.LineInRange
      rw [hbytes, if_neg (by omega)]; exact hl
  refine State.writeByte_elim s x v (fun _ => ⟨hm, he, hb, hc, hl⟩) (fun _ hne => ?_) (fun _ _ _ => ?_) (fun _ _ _ => ?_)
    (fun _ _ _ => ⟨⟨hm.mem, hm.rom, hm.ram⟩, he, hb, hc, hl⟩) (fun h1 h2 _ => ?_) (fun h1 h2 => ?_) (fun h1 h2 => ?_)
    (fun hx => ?_) (fun _ => ?_) (fun hx => ?_) (fun h1 h2 _ => ?_) (fun h1 h2 h3 h4 h5 h6 h7 h8 h9 h10 => ?_)
  · exact ⟨⟨hm.mem, hm.rom, hm.ram⟩, he, hb, ⟨hc.1, fun h => absurd h hne⟩, hl⟩
  · exact ⟨⟨hm.mem, hm.rom, hm.ram⟩, he, remapBank_reachable _, hc, hl⟩
  · unfold State.selectUpperBits
    split
    · exact ⟨⟨hm.mem, hm.rom, hm.ram⟩, he, hb, hc, hl⟩
    · exact ⟨⟨hm.mem, hm.rom, hm.ram⟩, he, remapBank_reachable _, hc, hl⟩
  · exact ⟨⟨hm.mem, hm.rom, Memory.wf_write _ _ _ _ _ (s.ramOffset_lt h1 h2) hm.ram⟩, he, hb, hc, hl⟩
  · refine pair x.toNat h1 h2 _ (fun y => ?_)
      ((onlyMem_pokeMem s _ v (.inl rfl)).trans (onlyMem_pokeMem _ _ v (.inr rfl)))
    rw [State.memAt_pokeMem, State.memAt_pokeMem]
    by_cases h : y = x.toNat <;> by_cases k : y = x.toNat + 0x2000 <;> simp [h, k]
  · refine pair (x.toNat - 0x2000) (by omega) (by omega) _ (fun y => ?_)
      ((onlyMem_pokeMem s _ v (.inr (by omega))).trans (onlyMem_pokeMem _ _ v (.inl rfl)))
    rw [State.memAt_pokeMem, State.memAt_pokeMem, show x.toNat - 0x2000 + 0x2000 = x.toNat by omega]
    by_cases h : y = x.toNat <;> by_cases k : y = x.toNat - 0x2000 <;> simp [h, k]
  · have k := one (fun y => y = x.toNat) _ (onlyMem_pokeMem s _ v rfl) (by rintro y rfl; omega)
    unfold State.serialHook
    split
    · exact ⟨⟨k.memories.mem, k.memories.rom, k.memories.ram⟩, k.echo, k.bank, k.cartridge, k.line⟩
    · exact k
  · exact one (fun y => y = 0xFF04) _ (onlyMem_pokeMem s _ _ rfl) (by rintro y rfl; omega)
  · refine State.BusInv.onlyMem (one (fun y => y = x.toNat) _ (onlyMem_pokeMem s _ v rfl) (by rintro y rfl; omega))
      (onlyMem_oamDma _ v) (fun y hy => by omega)
  · have k := one (fun y => y = x.toNat) _ (onlyMem_pokeMem s _ v rfl) (by rintro y rfl; omega)
    refine State.BusInv.onlyMem (s := { s.pokeMem x.toNat v with bootMapped := false })
      ⟨⟨k.memories.mem, k.memories.rom, k.memories.ram⟩, k.echo, k.bank, k.cartridge, k.line⟩
      (onlyMem_bootUnmap _) (fun y hy => by omega)
  · exact one (fun y => y = x.toNat) _ (onlyMem_pokeMem s _ v rfl) (by rintro y rfl; omega)

/-! ### Chains of bus writes -/

/-- The stores `l`, in order. -/
def State.applyStores (s : State) (l : List (Word × Byte)) : State := l.foldl (fun t p => t.writeByte p.1 p.2) s

@[simp] theorem State.applyStores_nil (s : State) : s.applyStores [] = s := rfl

@[simp] theorem State.applyStores_cons (s : State) (p : Word × Byte) (l : List (Word × Byte)) :
    s.applyStores (p :: l) = (s.writeByte p.1 p.2).applyStores l := rfl

theorem State.applyStores_append (s : State) (l m : List (Word × Byte)) :
    s.applyStores (l ++ m) = (s.applyStores l).applyStores m := by
  simp [State.applyStores]

theorem State.withCpu_applyStores (s c : State) (l : List (Word × Byte)) :
    (s.withCpu c).applyStores l = (s.applyStores l).withCpu c := by
  induction l generalizing s with
  | nil => rfl
  | cons p l ih => rw [State.applyStores_cons, State.applyStores_cons, State.withCpu_writeByte, ih]

theorem State.applyStores_busOnly (s : State) (l : List (Word × Byte)) : BusOnly s (s.applyStores l) := by
  induction l generalizing s with
  | nil => rfl
  | cons p l ih => exact (s.writeByte_busOnly p.1 p.2).trans (ih _)

theorem State.BusInv.applyStores {s : State} (h : s.BusInv) (l : List (Word × Byte)) : (s.applyStores l).BusInv := by
  induction l generalizing s with
  | nil => exact h
  | cons p l ih => exact ih (h.writeByte p.1 p.2)

/-- The bus part does not look at the CPU half. -/
theorem State.BusInv.withCpu {s : State} (h : s.BusInv) (c : State) : (s.withCpu c).BusInv :=
  ⟨⟨h.memories.mem, h.memories.rom, h.memories.ram⟩, h.echo, h.bank, h.cartridge, h.line⟩

/-- Push is two bus writes around an SP update (R84). -/
theorem State.push_eq (s : State) (v : Word) :
    s.push v = (s.applyStores [(s.sp - 2 + 1, hiByte v), (s.sp - 2, loByte v)]).withCpu { s with sp := s.sp - 2 } := by
  have h : ({ s with sp := s.sp - 2 } : State) = s.withCpu { s with sp := s.sp - 2 } := rfl
  show ((({ s with sp := s.sp - 2 } : State).writeByte (s.sp - 2 + 1) (hiByte v)).writeByte (s.sp - 2) (loByte v)) = _
  rw [h, State.withCpu_writeByte, State.withCpu_writeByte]
  rfl

end Sys2Proof.Machine
end

