-- ==== Sys2Proof/Laws/Exec.lean ====
section
/-! SUPPORT. What an instruction can do, said once for all of them: it answers a next state, which is the state after some bus
writes with a new CPU half; F's low nibble stays 0; and with the default cycle table it costs at most 24 cycles. -/

namespace Sys2Proof.Machine

/-- From `s` to `t` by bus writes and CPU updates, at a cost of at most `n` cycles. -/
structure Effect (n : Nat) (s t : State) : Prop where
  bus : ∃ l, t = (s.applyStores l).withCpu t
  flags : s.FlagsLowZero → t.FlagsLowZero
  cycles : s.cfg.cycleTable = [] → t.stepCycles ≤ s.stepCycles + n

theorem Effect.cfg {n : Nat} {s t : State} (h : Effect n s t) : t.cfg = s.cfg := by
  obtain ⟨l, hl⟩ := h.bus
  rw [hl]
  exact (congrArg State.cfg (s.applyStores_busOnly l)).trans rfl

/-- An update of the CPU half alone. -/
theorem Effect.cpu {s t : State} (h : t = s.withCpu t) (hf : s.FlagsLowZero → t.FlagsLowZero)
    (hc : t.stepCycles = s.stepCycles) : Effect 0 s t :=
  ⟨⟨[], h⟩, hf, fun _ => le_of_eq hc⟩

theorem Effect.refl (s : State) : Effect 0 s s := Effect.cpu rfl id rfl

theorem Effect.trans {m n : Nat} {s t u : State} (h : Effect m s t) (k : Effect n t u) : Effect (m + n) s u := by
  obtain ⟨l, hl⟩ := h.bus
  obtain ⟨l', hl'⟩ := k.bus
  refine ⟨⟨l ++ l', ?_⟩, fun hs => k.flags (h.flags hs), fun hc => ?_⟩
  · rw [hl, State.withCpu_applyStores, ← State.applyStores_append, State.withCpu_withCpu] at hl'
    exact hl'
  · have h1 := h.cycles hc
    have h2 := k.cycles (by rw [h.cfg]; exact hc)
    omega

theorem Effect.mono {m n : Nat} {s t : State} (hmn : m ≤ n) (h : Effect m s t) : Effect n s t :=
  ⟨h.bus, h.flags, fun hc => (h.cycles hc).trans (Nat.add_le_add_left hmn _)⟩

theorem packFlags_low (z n h c : Bool) : packFlags z n h c &&& 0x0F = 0 := by
  revert z n h c; decide

/-! ### One lemma for each shared operation -/

theorem effect_spend (s : State) (k : CostKey) (n : Nat) : Effect n s (s.spend k n) :=
  ⟨⟨[], rfl⟩, id, fun h => by simp [cycleCost, h]⟩

theorem effect_addCycles (s : State) (n : Nat) : Effect n s (s.addCycles n) := ⟨⟨[], rfl⟩, id, fun _ => le_refl _⟩

theorem effect_setFlags (s : State) (z n h c : Bool) : Effect 0 s (s.setFlags z n h c) :=
  Effect.cpu rfl (fun _ => packFlags_low z n h c) rfl

theorem effect_setReg (s : State) (r : Reg8) (v : Byte) : Effect 0 s (s.setReg r v) := by
  cases r <;> exact Effect.cpu rfl id rfl

theorem effect_setPair (s : State) (r : Pair) (v : Word) : Effect 0 s (s.setPair r v) := by
  cases r <;> exact Effect.cpu rfl id rfl

theorem effect_setStackPair (s : State) (r : StackPair) (v : Word) : Effect 0 s (s.setStackPair r v) := by
  cases r
  case af =>
    refine Effect.cpu rfl (fun _ => ?_) rfl
    show loByte v &&& 0xF0 &&& 0x0F = 0
    rw [BitVec.and_assoc]
    exact BitVec.and_zero
  all_goals exact Effect.cpu rfl id rfl

theorem effect_writeByte (s : State) (x : Word) (v : Byte) : Effect 0 s (s.writeByte x v) := by
  refine ⟨⟨[(x, v)], rfl⟩, fun h => ?_, fun _ => ?_⟩
  · simpa [State.FlagsLowZero] using h
  · simp

theorem effect_writeWord (s : State) (x v : Word) : Effect 0 s (s.writeWord x v) :=
  (effect_writeByte s x _).trans (effect_writeByte _ (x + 1) _)

theorem effect_sp (s : State) (v : Word) : Effect 0 s { s with sp := v } := Effect.cpu rfl id rfl

theorem effect_push (s : State) (v : Word) : Effect 0 s (s.push v) :=
  ((effect_sp s (s.sp - 2)).trans (effect_writeByte _ _ _)).trans (effect_writeByte _ _ _)

theorem effect_popped (s : State) : Effect 0 s s.popped := effect_sp s _

theorem effect_jumpTo (s : State) (x : Word) : Effect 0 s (s.jumpTo x) := Effect.cpu rfl id rfl

theorem effect_a (s : State) (v : Byte) : Effect 0 s { s with a := v } := Effect.cpu rfl id rfl

theorem effect_compareA (s : State) (v : Byte) (c : Bool) : Effect 0 s (s.compareA v c) := effect_setFlags _ _ _ _ _

theorem effect_addA (s : State) (v : Byte) (c : Bool) : Effect 0 s (s.addA v c) := (effect_a s _).trans (effect_setFlags _ _ _ _ _)

theorem effect_subA (s : State) (v : Byte) (c : Bool) : Effect 0 s (s.subA v c) := (effect_compareA s v c).trans (effect_a _ _)

theorem effect_andA (s : State) (v : Byte) : Effect 0 s (s.andA v) := (effect_a s _).trans (effect_setFlags _ _ _ _ _)

theorem effect_xorA (s : State) (v : Byte) : Effect 0 s (s.xorA v) := (effect_a s _).trans (effect_setFlags _ _ _ _ _)

theorem effect_orA (s : State) (v : Byte) : Effect 0 s (s.orA v) := (effect_a s _).trans (effect_setFlags _ _ _ _ _)

theorem effect_incReg (s : State) (r : Reg8) : Effect 0 s (s.incReg r) := (effect_setFlags s _ _ _ _).trans (effect_setReg _ r _)

theorem effect_decReg (s : State) (r : Reg8) : Effect 0 s (s.decReg r) := (effect_setFlags s _ _ _ _).trans (effect_setReg _ r _)

theorem effect_writeHL (s : State) (v : Byte) : Effect 0 s (s.writeHL v) := effect_writeByte s _ v

theorem effect_incHLMem (s : State) : Effect 0 s s.incHLMem := (effect_setFlags s _ _ _ _).trans (effect_writeHL _ _)

theorem effect_decHLMem (s : State) : Effect 0 s s.decHLMem := (effect_setFlags s _ _ _ _).trans (effect_writeHL _ _)

theorem effect_daa (s : State) : Effect 0 s s.daa := (effect_a s _).trans (effect_setFlags _ _ _ _ _)

theorem effect_cpl (s : State) : Effect 0 s s.cpl := (effect_a s _).trans (effect_setFlags _ _ _ _ _)

theorem effect_scf (s : State) : Effect 0 s s.scf := effect_setFlags s _ _ _ _

theorem effect_ccf (s : State) : Effect 0 s s.ccf := effect_setFlags s _ _ _ _

theorem effect_addHL (s : State) (v : Word) : Effect 0 s (s.addHL v) := (effect_setPair s .hl _).trans (effect_setFlags _ _ _ _ _)

theorem effect_addSP (s : State) (e : Byte) : Effect 0 s (s.addSP e) := (effect_sp s _).trans (effect_setFlags _ _ _ _ _)

theorem effect_ldHLSP (s : State) (e : Byte) : Effect 0 s (s.ldHLSP e) := (effect_setPair s .hl _).trans (effect_setFlags _ _ _ _ _)

theorem effect_shiftReg (s : State) (op : ShiftOp) (r : Reg8) : Effect 0 s (s.shiftReg op r) :=
  (effect_setFlags s _ _ _ _).trans (effect_setReg _ r _)

theorem effect_shiftHLMem (s : State) (op : ShiftOp) : Effect 0 s (s.shiftHLMem op) :=
  (effect_setFlags s _ _ _ _).trans (effect_writeHL _ _)

theorem effect_rotateA (s : State) (op : ShiftOp) : Effect 0 s (s.rotateA op) := (effect_a s _).trans (effect_setFlags _ _ _ _ _)

theorem effect_bitTest (s : State) (b : Nat) (v : Byte) : Effect 0 s (s.bitTest b v) := effect_setFlags s _ _ _ _

theorem effect_callTo (s : State) (x : Word) : Effect 0 s (s.callTo x) := (effect_push s _).trans (effect_jumpTo _ x)

theorem effect_returnFromCall (s : State) : Effect 0 s s.returnFromCall := (effect_popped s).trans (effect_jumpTo _ _)

theorem effect_returnFromInterrupt (s : State) : Effect 0 s s.returnFromInterrupt :=
  (effect_popped s).trans (u := { s.popped with pc := s.popValue, ime := true }) (Effect.cpu rfl id rfl)

theorem effect_raiseUnimplemented (s : State) (o : Byte) : Effect 0 s (s.raiseUnimplemented o) := Effect.cpu rfl id rfl

theorem effect_latch (s : State) {t : State} (h : t = s.withCpu t) (hf : t.f = s.f) (hc : t.stepCycles = s.stepCycles) :
    Effect 0 s t := Effect.cpu h (fun k => by unfold State.FlagsLowZero; rw [hf]; exact k) hc

theorem effect_ite {p : Prop} [Decidable p] {n : Nat} {s t u : State} (h : Effect n s t) (k : Effect n s u) :
    Effect n s (if p then t else u) := by
  split <;> assumption

theorem effect_jumpIf (s : State) (cc : Cond) (x : Word) (op : Byte) : Effect 24 s (s.jumpIf cc x op 12 16) ∧
    Effect 24 s (s.jumpIf cc x op 8 12) :=
  ⟨effect_ite (((effect_jumpTo s x).trans (effect_spend _ _ 16)).mono (by omega)) ((effect_spend s _ 12).mono (by omega)),
   effect_ite (((effect_jumpTo s x).trans (effect_spend _ _ 12)).mono (by omega)) ((effect_spend s _ 8).mono (by omega))⟩

theorem effect_callIf (s : State) (cc : Cond) (x : Word) (op : Byte) : Effect 24 s (s.callIf cc x op 12 24) :=
  effect_ite (((effect_callTo s x).trans (effect_spend _ _ 24)).mono (by omega)) ((effect_spend s _ 12).mono (by omega))

theorem effect_returnIf (s : State) (cc : Cond) (op : Byte) : Effect 24 s (s.returnIf cc op 8 20) :=
  effect_ite (((effect_returnFromCall s).trans (effect_spend _ _ 20)).mono (by omega)) ((effect_spend s _ 8).mono (by omega))

theorem effect_runCb (s : State) (op2 : Byte) : Effect 24 s (s.runCb op2) := by
  unfold State.runCb
  split
  · refine ((effect_ite (effect_shiftReg s _ _) (effect_ite (effect_bitTest s _ _)
      (effect_ite (effect_setReg s _ _) (effect_setReg s _ _)))).trans (effect_spend _ _ 8)).mono (by omega)
  · refine effect_ite ?_ (effect_ite ?_ (effect_ite ?_ ?_))
    · exact ((effect_shiftHLMem s _).trans (effect_spend _ _ 16)).mono (by omega)
    · exact ((effect_bitTest s _ _).trans (effect_spend _ _ 12)).mono (by omega)
    · exact ((effect_writeHL s _).trans (effect_spend _ _ 16)).mono (by omega)
    · exact ((effect_writeHL s _).trans (effect_spend _ _ 16)).mono (by omega)

/-- An operation, then the instruction's cost. -/
theorem Effect.charged {s t : State} (h : Effect 0 s t) (k : CostKey) (n : Nat) (hn : n ≤ 24) : Effect 24 s (t.spend k n) :=
  (h.trans (effect_spend t k n)).mono (by omega)

/-- Every instruction answers a next state, reached by bus writes and CPU updates. -/
theorem exec_effect (i : Instr) (s : State) : ∃ t, exec i s = .next t ∧ Effect 24 s t := by
  cases i
  case ld_atBC_A | ld_atDE_A | ldh_atn_A | ld_atC_A | ld_atnn_A =>
    exact ⟨_, rfl, (effect_writeByte s _ _).charged _ _ (by decide)⟩
  case ld_B_n | ld_A_atBC | ld_C_n | ld_D_n | ld_A_atDE | ld_E_n | ld_H_n | ld_L_n | ld_A_n | ld_B_B | ld_B_C | ld_B_D |
    ld_B_E | ld_B_H | ld_B_L | ld_B_atHL | ld_B_A | ld_C_B | ld_C_C | ld_C_D | ld_C_E | ld_C_H | ld_C_L | ld_C_atHL |
    ld_C_A | ld_D_B | ld_D_C | ld_D_D | ld_D_E | ld_D_H | ld_D_L | ld_D_atHL | ld_D_A | ld_E_B | ld_E_C | ld_E_D | ld_E_E
    | ld_E_H | ld_E_L | ld_E_atHL | ld_E_A | ld_H_B | ld_H_C | ld_H_D | ld_H_E | ld_H_H | ld_H_L | ld_H_atHL | ld_H_A |
    ld_L_B | ld_L_C | ld_L_D | ld_L_E | ld_L_H | ld_L_L | ld_L_atHL | ld_L_A | ld_A_B | ld_A_C | ld_A_D | ld_A_E | ld_A_H
    | ld_A_L | ld_A_atHL | ld_A_A | ldh_A_atn | ld_A_atC | ld_A_atnn | res_0_B | res_0_C | res_0_D | res_0_E | res_0_H |
    res_0_L | res_0_A | res_1_B | res_1_C | res_1_D | res_1_E | res_1_H | res_1_L | res_1_A | res_2_B | res_2_C | res_2_D
    | res_2_E | res_2_H | res_2_L | res_2_A | res_3_B | res_3_C | res_3_D | res_3_E | res_3_H | res_3_L | res_3_A |
    res_4_B | res_4_C | res_4_D | res_4_E | res_4_H | res_4_L | res_4_A | res_5_B | res_5_C | res_5_D | res_5_E | res_5_H
    | res_5_L | res_5_A | res_6_B | res_6_C | res_6_D | res_6_E | res_6_H | res_6_L | res_6_A | res_7_B | res_7_C |
    res_7_D | res_7_E | res_7_H | res_7_L | res_7_A | set_0_B | set_0_C | set_0_D | set_0_E | set_0_H | set_0_L | set_0_A
    | set_1_B | set_1_C | set_1_D | set_1_E | set_1_H | set_1_L | set_1_A | set_2_B | set_2_C | set_2_D | set_2_E |
    set_2_H | set_2_L | set_2_A | set_3_B | set_3_C | set_3_D | set_3_E | set_3_H | set_3_L | set_3_A | set_4_B | set_4_C
    | set_4_D | set_4_E | set_4_H | set_4_L | set_4_A | set_5_B | set_5_C | set_5_D | set_5_E | set_5_H | set_5_L |
    set_5_A | set_6_B | set_6_C | set_6_D | set_6_E | set_6_H | set_6_L | set_6_A | set_7_B | set_7_C | set_7_D | set_7_E
    | set_7_H | set_7_L | set_7_A =>
    exact ⟨_, rfl, (effect_setReg s _ _).charged _ _ (by decide)⟩
  case ld_atHLi_A | ld_atHLd_A =>
    exact ⟨_, rfl, ((effect_writeHL s _).trans (effect_setPair _ _ _)).charged _ _ (by decide)⟩
  case ld_A_atHLi | ld_A_atHLd =>
    exact ⟨_, rfl, ((effect_setReg s _ _).trans (effect_setPair _ _ _)).charged _ _ (by decide)⟩
  case ld_atHL_n | ld_atHL_B | ld_atHL_C | ld_atHL_D | ld_atHL_E | ld_atHL_H | ld_atHL_L | ld_atHL_A | res_0_atHL |
    res_1_atHL | res_2_atHL | res_3_atHL | res_4_atHL | res_5_atHL | res_6_atHL | res_7_atHL | set_0_atHL | set_1_atHL |
    set_2_atHL | set_3_atHL | set_4_atHL | set_5_atHL | set_6_atHL | set_7_atHL =>
    exact ⟨_, rfl, (effect_writeHL s _).charged _ _ (by decide)⟩
  case ld_BC_nn | ld_DE_nn | ld_HL_nn | ld_SP_nn | ld_SP_HL | inc_BC | dec_BC | inc_DE | dec_DE | inc_HL | dec_HL | inc_SP |
    dec_SP =>
    exact ⟨_, rfl, (effect_setPair s _ _).charged _ _ (by decide)⟩
  case ld_atnn_SP =>
    exact ⟨_, rfl, (effect_writeWord s _ _).charged _ _ (by decide)⟩
  case pop_BC | pop_DE | pop_HL | pop_AF =>
    exact ⟨_, rfl, ((effect_popped s).trans (effect_setStackPair _ _ _)).charged _ _ (by decide)⟩
  case push_BC | push_DE | push_HL | push_AF =>
    exact ⟨_, rfl, (effect_push s _).charged _ _ (by decide)⟩
  case ld_HL_SPe =>
    exact ⟨_, rfl, (effect_ldHLSP s _).charged _ _ (by decide)⟩
  case inc_B | inc_C | inc_D | inc_E | inc_H | inc_L | inc_A =>
    exact ⟨_, rfl, (effect_incReg s _).charged _ _ (by decide)⟩
  case dec_B | dec_C | dec_D | dec_E | dec_H | dec_L | dec_A =>
    exact ⟨_, rfl, (effect_decReg s _).charged _ _ (by decide)⟩
  case daa =>
    exact ⟨_, rfl, (effect_daa s).charged _ _ (by decide)⟩
  case cpl =>
    exact ⟨_, rfl, (effect_cpl s).charged _ _ (by decide)⟩
  case inc_atHL =>
    exact ⟨_, rfl, (effect_incHLMem s).charged _ _ (by decide)⟩
  case dec_atHL =>
    exact ⟨_, rfl, (effect_decHLMem s).charged _ _ (by decide)⟩
  case scf =>
    exact ⟨_, rfl, (effect_scf s).charged _ _ (by decide)⟩
  case ccf =>
    exact ⟨_, rfl, (effect_ccf s).charged _ _ (by decide)⟩
  case add_A_B | add_A_C | add_A_D | add_A_E | add_A_H | add_A_L | add_A_atHL | add_A_A | adc_A_B | adc_A_C | adc_A_D |
    adc_A_E | adc_A_H | adc_A_L | adc_A_atHL | adc_A_A | add_A_n | adc_A_n =>
    exact ⟨_, rfl, (effect_addA s _ _).charged _ _ (by decide)⟩
  case sub_B | sub_C | sub_D | sub_E | sub_H | sub_L | sub_atHL | sub_A | sbc_A_B | sbc_A_C | sbc_A_D | sbc_A_E | sbc_A_H |
    sbc_A_L | sbc_A_atHL | sbc_A_A | sub_n | sbc_A_n =>
    exact ⟨_, rfl, (effect_subA s _ _).charged _ _ (by decide)⟩
  case and_B | and_C | and_D | and_E | and_H | and_L | and_atHL | and_A | and_n =>
    exact ⟨_, rfl, (effect_andA s _).charged _ _ (by decide)⟩
  case xor_B | xor_C | xor_D | xor_E | xor_H | xor_L | xor_atHL | xor_A | xor_n =>
    exact ⟨_, rfl, (effect_xorA s _).charged _ _ (by decide)⟩
  case or_B | or_C | or_D | or_E | or_H | or_L | or_atHL | or_A | or_n =>
    exact ⟨_, rfl, (effect_orA s _).charged _ _ (by decide)⟩
  case cp_B | cp_C | cp_D | cp_E | cp_H | cp_L | cp_atHL | cp_A | cp_n =>
    exact ⟨_, rfl, (effect_compareA s _ _).charged _ _ (by decide)⟩
  case add_HL_BC | add_HL_DE | add_HL_HL | add_HL_SP =>
    exact ⟨_, rfl, (effect_addHL s _).charged _ _ (by decide)⟩
  case add_SP_e =>
    exact ⟨_, rfl, (effect_addSP s _).charged _ _ (by decide)⟩
  case rlca | rrca | rla | rra =>
    exact ⟨_, rfl, (effect_rotateA s _).charged _ _ (by decide)⟩
  case rlc_B | rlc_C | rlc_D | rlc_E | rlc_H | rlc_L | rlc_A | rrc_B | rrc_C | rrc_D | rrc_E | rrc_H | rrc_L | rrc_A | rl_B |
    rl_C | rl_D | rl_E | rl_H | rl_L | rl_A | rr_B | rr_C | rr_D | rr_E | rr_H | rr_L | rr_A | sla_B | sla_C | sla_D |
    sla_E | sla_H | sla_L | sla_A | sra_B | sra_C | sra_D | sra_E | sra_H | sra_L | sra_A | swap_B | swap_C | swap_D |
    swap_E | swap_H | swap_L | swap_A | srl_B | srl_C | srl_D | srl_E | srl_H | srl_L | srl_A =>
    exact ⟨_, rfl, (effect_shiftReg s _ _).charged _ _ (by decide)⟩
  case rlc_atHL | rrc_atHL | rl_atHL | rr_atHL | sla_atHL | sra_atHL | swap_atHL | srl_atHL =>
    exact ⟨_, rfl, (effect_shiftHLMem s _).charged _ _ (by decide)⟩
  case bit_0_B | bit_0_C | bit_0_D | bit_0_E | bit_0_H | bit_0_L | bit_0_atHL | bit_0_A | bit_1_B | bit_1_C | bit_1_D |
    bit_1_E | bit_1_H | bit_1_L | bit_1_atHL | bit_1_A | bit_2_B | bit_2_C | bit_2_D | bit_2_E | bit_2_H | bit_2_L |
    bit_2_atHL | bit_2_A | bit_3_B | bit_3_C | bit_3_D | bit_3_E | bit_3_H | bit_3_L | bit_3_atHL | bit_3_A | bit_4_B |
    bit_4_C | bit_4_D | bit_4_E | bit_4_H | bit_4_L | bit_4_atHL | bit_4_A | bit_5_B | bit_5_C | bit_5_D | bit_5_E |
    bit_5_H | bit_5_L | bit_5_atHL | bit_5_A | bit_6_B | bit_6_C | bit_6_D | bit_6_E | bit_6_H | bit_6_L | bit_6_atHL |
    bit_6_A | bit_7_B | bit_7_C | bit_7_D | bit_7_E | bit_7_H | bit_7_L | bit_7_atHL | bit_7_A =>
    exact ⟨_, rfl, (effect_bitTest s _ _).charged _ _ (by decide)⟩
  case jr_e | jp_nn | jp_HL =>
    exact ⟨_, rfl, (effect_jumpTo s _).charged _ _ (by decide)⟩
  case jr_NZ_e | jr_Z_e | jr_NC_e | jr_C_e =>
    exact ⟨_, rfl, (effect_jumpIf s _ _ _).2⟩
  case ret_NZ | ret_Z | ret_NC | ret_C =>
    exact ⟨_, rfl, effect_returnIf s _ _⟩
  case jp_NZ_nn | jp_Z_nn | jp_NC_nn | jp_C_nn =>
    exact ⟨_, rfl, (effect_jumpIf s _ _ _).1⟩
  case call_NZ_nn | call_Z_nn | call_NC_nn | call_C_nn =>
    exact ⟨_, rfl, effect_callIf s _ _ _⟩
  case rst_00H | call_nn | rst_08H | rst_10H | rst_18H | rst_20H | rst_28H | rst_30H | rst_38H =>
    exact ⟨_, rfl, (effect_callTo s _).charged _ _ (by decide)⟩
  case ret =>
    exact ⟨_, rfl, (effect_returnFromCall s).charged _ _ (by decide)⟩
  case reti =>
    exact ⟨_, rfl, (effect_returnFromInterrupt s).charged _ _ (by decide)⟩
  case nop =>
    exact ⟨_, rfl, (Effect.refl s).charged _ _ (by decide)⟩
  case stop =>
    exact ⟨_, rfl, (effect_latch s (t := { s with stopped := true }) rfl rfl rfl).charged _ _ (by decide)⟩
  case halt =>
    exact ⟨_, rfl, (effect_latch s (t := { s with halted := true }) rfl rfl rfl).charged _ _ (by decide)⟩
  case prefix_CB =>
    exact ⟨_, rfl, effect_runCb s _⟩
  case illegal_D3 | illegal_DB | illegal_DD | illegal_E3 | illegal_E4 | illegal_EB | illegal_EC | illegal_ED | illegal_F4 |
    illegal_FC | illegal_FD =>
    exact ⟨_, rfl, (effect_raiseUnimplemented s _).mono (by decide)⟩
  case di =>
    exact ⟨_, rfl, (effect_latch s (t := { s with ime := false, imePending := false }) rfl rfl rfl).charged _ _ (by decide)⟩
  case ei =>
    exact ⟨_, rfl, (effect_latch s (t := { s with imePending := true }) rfl rfl rfl).charged _ _ (by decide)⟩

end Sys2Proof.Machine
end

