-- ==== Sys2Proof/Laws/Interactions.lean ====
section
/-! SUPPORT. What the host's loads can do: the battery RAM, the cartridge and the save state, each said once. -/

namespace Sys2Proof.Machine

/-- Filling `ram` changes nothing else. -/
theorem State.fillRam_eq (s : State) (a : Nat) (l : List Byte) : s.fillRam a l = { s with ram := (s.fillRam a l).ram } := by
  induction l generalizing s a with
  | nil => rfl
  | cons v l ih => exact (ih (s.pokeRam a v) (a + 1)).trans rfl

/-- A filled byte is the list's, every other byte is as before. -/
theorem State.ramAt_fillRam (s : State) (a x : Nat) (l : List Byte) :
    (s.fillRam a l).ramAt x = if a ≤ x ∧ x < a + l.length then l.getD (x - a) 0 else s.ramAt x := by
  induction l generalizing s a with
  | nil => rw [if_neg (by simp)]; rfl
  | cons v l ih =>
    rw [State.fillRam, ih, State.ramAt_pokeRam, List.length_cons]
    rcases Nat.lt_trichotomy x a with h | rfl | h
    · rw [if_neg (by omega), if_neg (by omega), if_neg (by omega)]
    · rw [if_neg (by omega), if_pos rfl, if_pos (by omega), Nat.sub_self]; rfl
    · obtain ⟨k, rfl⟩ : ∃ k, x = a + 1 + k := ⟨x - (a + 1), by omega⟩
      rw [if_neg (show ¬ a + 1 + k = a by omega), show a + 1 + k - a = k + 1 by omega, Nat.add_sub_cancel_left, List.getD_cons_succ]
      exact if_congr (by omega) rfl rfl

/-- Filling within the 32 KiB keeps `ram` canonical. -/
theorem State.wf_fillRam (s : State) (a : Nat) (l : List Byte) (hl : a + l.length ≤ 0x8000)
    (h : Memory.wf zeroDefault 0x8000 s.ram = true) : Memory.wf zeroDefault 0x8000 (s.fillRam a l).ram = true := by
  induction l generalizing s a with
  | nil => exact h
  | cons v l ih =>
    rw [List.length_cons] at hl
    exact ih (s.pokeRam a v) (a + 1) (by omega) (Memory.wf_write _ _ _ _ _ (by omega) h)

/-- All that LoadBatteryRam can answer. -/
theorem State.loadBatteryRam_cases (s : State) (bytes : Option (List Byte)) :
    (s.cartType ≠ 0x03 ∧ s.loadBatteryRam bytes = .failed .noBattery) ∨
    (s.cartType = 0x03 ∧ bytes = none ∧ s.loadBatteryRam bytes = .failed .fileMissing) ∨
    ∃ l, s.cartType = 0x03 ∧ bytes = some l ∧ s.loadBatteryRam bytes = .done (s.fillRam 0 (l.take 0x8000)) := by
  unfold State.loadBatteryRam
  by_cases h : s.cartType = 0x03
  · cases bytes with
    | none => exact .inr (.inl ⟨h, rfl, if_pos h⟩)
    | some l => exact .inr (.inr ⟨l, h, rfl, if_pos h⟩)
  · exact .inl ⟨h, if_neg h⟩

/-- All that LoadCartridge can answer for an image: a failure, or the inserted cartridge, with its battery RAM where there is any. -/
theorem State.loadCartridge_cases (s : State) (image : List Byte) (battery : Option (List Byte)) :
    (0x03 < (imageType image).toNat ∧
      s.loadCartridge (some image) battery = .failed (.unsupportedController (imageType image))) ∨
    ((imageType image).toNat ≤ 0x03 ∧
      ((∃ l, imageType image = 0x03 ∧ battery = some l ∧
          s.loadCartridge (some image) battery = .loaded ((s.insertCartridge image).fillRam 0 (l.take 0x8000)) none) ∨
        (imageType image = 0x03 ∧ battery = none ∧
          s.loadCartridge (some image) battery = .loaded (s.insertCartridge image) (some .fileMissing)) ∨
        (imageType image ≠ 0x03 ∧
          s.loadCartridge (some image) battery = .loaded (s.insertCartridge image) (some .noBattery)))) := by
  by_cases ht : 0x03 < (imageType image).toNat
  · exact .inl ⟨ht, if_pos ht⟩
  · have hl : s.loadCartridge (some image) battery = (s.insertCartridge image).withBattery battery := if_neg ht
    refine .inr ⟨by omega, ?_⟩
    rw [hl]
    unfold State.withBattery
    obtain ⟨h, e⟩ | ⟨h, hb, e⟩ | ⟨l, h, hb, e⟩ := State.loadBatteryRam_cases (s.insertCartridge image) battery
    · exact .inr (.inr ⟨h, by rw [e]⟩)
    · exact .inr (.inl ⟨h, hb, by rw [e]⟩)
    · exact .inl ⟨l, h, hb, by rw [e]⟩

/-- The memory image that SaveState gives. -/
theorem State.saveState_image (s : State) : s.saveState.image = (List.range 0x10000).map s.memAt := by
  simp only [State.saveState]

/-- With both artifacts LoadState succeeds. -/
@[simp] theorem State.loadState_some (s : State) (bytes : List Byte) (r : RegisterDump) :
    s.loadState (some bytes) (some r) = .done (s.restored bytes r) := rfl

/-- A byte of `mem` after a LoadState: the image's, or as unlisted past its end. -/
theorem State.memAt_restored (s : State) (bytes : List Byte) (r : RegisterDump) (a : Nat) :
    (s.restored bytes r).memAt a =
      if a < (bytes.take 0x10000).length then (bytes.take 0x10000).getD a 0 else memDefault s.cfg a :=
  (Memory.read_ofBytes (memDefault s.cfg) 0 a (bytes.take 0x10000)).trans (by simp)

/-- All that LoadState can answer: it writes only with both artifacts. -/
theorem State.loadState_cases (s : State) (image : Option (List Byte)) (registers : Option RegisterDump) :
    ((image = none ∨ registers = none) ∧ s.loadState image registers = .failed .fileMissing) ∨
    ∃ bytes r, image = some bytes ∧ registers = some r ∧ s.loadState image registers = .done (s.restored bytes r) := by
  cases image with
  | none => exact .inl ⟨.inl rfl, rfl⟩
  | some bytes =>
    cases registers with
    | none => exact .inl ⟨.inr rfl, rfl⟩
    | some r => exact .inr ⟨bytes, r, rfl, rfl, rfl⟩

end Sys2Proof.Machine
end

