-- ==== Sys2Proof/Laws/Step.lean ====
section
/-! SUPPORT. What the parts of a step can do, said once: the interrupt service, the device phase, and the step as a whole. -/

namespace Sys2Proof.Machine

/-! ### The device phase -/

/-- The bytes of `mem` that the timer, the LCD controller and their interrupt requests write. -/
def deviceByte (x : Nat) : Prop := x = 0xFF04 ∨ x = 0xFF05 ∨ x = 0xFF0F ∨ x = 0xFF41 ∨ x = 0xFF44

/-- `t` is `s` but for what the device phase can change. -/
structure DeviceEffect (s t : State) : Prop where
  rest : t = { s with
    mem := t.mem
    divAcc := t.divAcc
    timaAcc := t.timaAcc
    lcdAcc := t.lcdAcc
    framebuffer := t.framebuffer
    lineShade := t.lineShade
    outputs := t.outputs }
  bytes : ∀ x, ¬ deviceByte x → t.memAt x = s.memAt x
  wf : Memory.wf (memDefault s.cfg) 0x10000 s.mem = true → Memory.wf (memDefault t.cfg) 0x10000 t.mem = true

theorem DeviceEffect.refl (s : State) : DeviceEffect s s := ⟨rfl, fun _ _ => rfl, id⟩

theorem DeviceEffect.trans {s t u : State} (h : DeviceEffect s t) (k : DeviceEffect t u) : DeviceEffect s u :=
  ⟨by rw [k.rest, h.rest], fun x hx => (k.bytes x hx).trans (h.bytes x hx), fun hm => k.wf (h.wf hm)⟩

theorem deviceEffect_pokeMem (s : State) (a : Nat) (v : Byte) (ha : deviceByte a) : DeviceEffect s (s.pokeMem a v) := by
  have h := onlyMem_pokeMem s a v ha
  exact ⟨rfl, h.bytes, h.wf (fun x hx => by unfold deviceByte at hx; omega)⟩

theorem deviceEffect_requestInterrupt (s : State) (k : Nat) : DeviceEffect s (s.requestInterrupt k) :=
  deviceEffect_pokeMem s _ _ (.inr (.inr (.inl rfl)))

theorem deviceEffect_ite {p : Prop} [Decidable p] {s t u : State} (h : DeviceEffect s t) (k : DeviceEffect s u) :
    DeviceEffect s (if p then t else u) := by
  split <;> assumption

theorem deviceEffect_divAcc (s : State) (n : Nat) : DeviceEffect s { s with divAcc := n } := ⟨rfl, fun _ _ => rfl, id⟩
theorem deviceEffect_timaAcc (s : State) (n : Nat) : DeviceEffect s { s with timaAcc := n } := ⟨rfl, fun _ _ => rfl, id⟩
theorem deviceEffect_lcdAcc (s : State) (n : Nat) : DeviceEffect s { s with lcdAcc := n } := ⟨rfl, fun _ _ => rfl, id⟩

theorem deviceEffect_timerDivider (s : State) (d : Nat) : DeviceEffect s (s.timerDivider d) :=
  (deviceEffect_pokeMem s _ _ (.inl rfl)).trans (deviceEffect_divAcc _ _)

theorem deviceEffect_timaTick (s : State) : DeviceEffect s s.timaTick :=
  deviceEffect_ite ((deviceEffect_pokeMem s _ _ (.inr (.inl rfl))).trans (deviceEffect_requestInterrupt _ 2))
    (deviceEffect_pokeMem s _ _ (.inr (.inl rfl)))

theorem deviceEffect_timaTicks (s : State) (n : Nat) : DeviceEffect s (s.timaTicks n) := by
  induction n generalizing s with
  | zero => exact DeviceEffect.refl s
  | succ n ih => exact (deviceEffect_timaTick s).trans (ih _)

theorem deviceEffect_timerCounter (s : State) (d : Nat) : DeviceEffect s (s.timerCounter d) :=
  deviceEffect_ite ((deviceEffect_timaTicks s _).trans (deviceEffect_timaAcc _ _)) (DeviceEffect.refl s)

/-- TimerUpdate writes DIV, TIMA, IF and the two accumulators (R530, R531). -/
theorem deviceEffect_timerUpdate (s : State) (d : Nat) : DeviceEffect s (s.timerUpdate d) :=
  (deviceEffect_timerDivider s d).trans (deviceEffect_timerCounter _ d)

theorem deviceEffect_renderLine (s : State) (ly : Nat) : DeviceEffect s (s.renderLine ly) := ⟨rfl, fun _ _ => rfl, id⟩

theorem deviceEffect_presentFrame (s : State) : DeviceEffect s s.presentFrame := ⟨rfl, fun _ _ => rfl, id⟩

theorem deviceEffect_coincidence (s : State) : DeviceEffect s s.coincidence :=
  (deviceEffect_ite (deviceEffect_requestInterrupt s 1) (DeviceEffect.refl s)).trans
    (deviceEffect_pokeMem _ _ _ (.inr (.inr (.inr (.inl rfl)))))

theorem deviceEffect_advanceLine (s : State) : DeviceEffect s s.advanceLine := by
  have hly : deviceByte 0xFF44 := .inr (.inr (.inr (.inr rfl)))
  refine (deviceEffect_pokeMem s 0xFF44 (s.memAt 0xFF44 + 1) hly).trans ?_
  refine DeviceEffect.trans (t := if (s.pokeMem 0xFF44 (s.memAt 0xFF44 + 1)).memAt 0xFF44 = 144 then
      ((s.pokeMem 0xFF44 (s.memAt 0xFF44 + 1)).requestInterrupt 0).presentFrame
    else s.pokeMem 0xFF44 (s.memAt 0xFF44 + 1)) ?_ ?_
  · exact deviceEffect_ite ((deviceEffect_requestInterrupt _ 0).trans (deviceEffect_presentFrame _)) (DeviceEffect.refl _)
  · exact deviceEffect_ite (deviceEffect_pokeMem _ _ _ hly) (DeviceEffect.refl _)

theorem deviceEffect_lcdLineEnd (s : State) : DeviceEffect s s.lcdLineEnd :=
  deviceEffect_ite ((((deviceEffect_ite (deviceEffect_renderLine s _) (DeviceEffect.refl s)).trans
    (deviceEffect_advanceLine _)).trans (deviceEffect_coincidence _)).trans (deviceEffect_lcdAcc _ _)) (DeviceEffect.refl s)

theorem deviceEffect_lcdMode (s : State) : DeviceEffect s s.lcdMode :=
  (deviceEffect_pokeMem s 0xFF41 _ (.inr (.inr (.inr (.inl rfl))))).trans
    (deviceEffect_ite (deviceEffect_requestInterrupt _ 1) (DeviceEffect.refl _))

theorem deviceEffect_lcdOff (s : State) : DeviceEffect s s.lcdOff :=
  ((deviceEffect_pokeMem s 0xFF41 _ (.inr (.inr (.inr (.inl rfl))))).trans
    (deviceEffect_pokeMem _ 0xFF44 0 (.inr (.inr (.inr (.inr rfl)))))).trans (deviceEffect_lcdAcc _ 0)

/-- LcdUpdate writes LY, STAT, IF, the line accumulator, the picture and the outputs (R540 to R547). -/
theorem deviceEffect_lcdUpdate (s : State) (d : Nat) : DeviceEffect s (s.lcdUpdate d) :=
  deviceEffect_ite (((deviceEffect_lcdAcc s _).trans (deviceEffect_lcdLineEnd _)).trans (deviceEffect_lcdMode _))
    (deviceEffect_lcdOff s)

/-- The device phase adds the delta to the counter, uses it up, and runs the devices (R500 step 3, R41). -/
theorem deviceEffect_deviceStep (s : State) :
    DeviceEffect { s with cycleCount := s.cycleCount + s.stepCycles, stepCycles := 0 } s.deviceStep :=
  (deviceEffect_timerUpdate _ _).trans (deviceEffect_lcdUpdate _ _)

theorem State.deviceStep_counters (s : State) :
    s.deviceStep.cycleCount = s.cycleCount + s.stepCycles ∧ s.deviceStep.stepCycles = 0 :=
  ⟨(congrArg State.cycleCount (deviceEffect_deviceStep s).rest).trans rfl,
   (congrArg State.stepCycles (deviceEffect_deviceStep s).rest).trans rfl⟩

/-! ### Interrupt service -/

theorem effect_dispatch_cpu (s t : State) (n : Nat) (h : ∃ l, t = (s.applyStores l).withCpu t) :
    ∃ l, t.addCycles n = (s.applyStores l).withCpu (t.addCycles n) := by
  obtain ⟨l, hl⟩ := h
  exact ⟨l, (congrArg (fun u : State => u.addCycles n) hl).trans rfl⟩

/-- Interrupt entry: a raw write of IF, the two stack writes, and the CPU half (R514). -/
theorem State.dispatchInterrupt_eq (s : State) (k : Nat) (wasHalted : Bool) :
    s.dispatchInterrupt k wasHalted =
      ((s.pokeMem 0xFF0F (s.memAt 0xFF0F &&& ~~~(irqMask k))).applyStores
        [(s.sp - 2 + 1, hiByte s.pc), (s.sp - 2, loByte s.pc)]).withCpu
        { s with sp := s.sp - 2, pc := vectorOf k, ime := false, imePending := false,
                 stepCycles := s.stepCycles + (if wasHalted then 24 else 20) } := by
  unfold State.dispatchInterrupt
  rw [State.push_eq]
  rfl

/-- The three ways service can go (R513). -/
theorem State.service_cases (s : State) :
    (s.pendingIrqs = 0 ∧ s.service = s) ∨
    (s.pendingIrqs ≠ 0 ∧ s.ime = false ∧ s.service = { s with halted := false }) ∨
    (s.pendingIrqs ≠ 0 ∧ s.ime = true ∧
      s.service = ({ s with halted := false } : State).dispatchInterrupt (lowestSource s.pendingIrqs) s.halted) := by
  unfold State.service
  by_cases h : s.pendingIrqs = 0
  · exact .inl ⟨h, if_pos h⟩
  · rw [if_neg h]
    cases hi : s.ime with
    | false => exact .inr (.inl ⟨h, rfl, by simp⟩)
    | true => exact .inr (.inr ⟨h, rfl, by simp⟩)

/-! ### The step -/

/-- Every way a step can go (R500): stopped by a fault, held, idle, or one instruction with what follows it. -/
theorem step_cases (s : State) :
    (∃ r, s.fault = some r ∧ step s = .fault (.unimplementedOpcode r.opcode r.pc)) ∨
    (s.fault = none ∧ s.stopped = true ∧ step s = .refused .stoppedHold) ∨
    (∃ u, s.fault = none ∧ s.stopped = false ∧ u = ({ s with stepCycles := 0 } : State).service ∧ u.halted = true ∧
      step s = .next u.idleStep) ∨
    (∃ u t, s.fault = none ∧ s.stopped = false ∧ u = ({ s with stepCycles := 0 } : State).service ∧ u.halted = false ∧
      exec u.fetchInstr u.pastInstr = .next t ∧ step s = .next (t.finishInstr u.imePending (isDi u.fetchInstr))) := by
  have h0 : step s = s.stepBody := rfl
  by_cases hf : s.fault = none
  · have h1 : step s = if s.stopped then .refused .stoppedHold else s.enabledStep := by rw [h0, State.stepBody, hf]
    by_cases hs : s.stopped = true
    · exact .inr (.inl ⟨hf, hs, by rw [h1, hs]; rfl⟩)
    · replace hs : s.stopped = false := by simpa using hs
      have h2 : step s = s.enabledStep := by rw [h1, hs]; rfl
      refine .inr (.inr ?_)
      rw [h2, State.enabledStep]
      generalize hu : ({ s with stepCycles := 0 } : State).service = u
      cases hh : u.halted with
      | true => exact .inl ⟨u, hf, hs, rfl, hh, by simp⟩
      | false =>
        obtain ⟨t, ht, -⟩ := exec_effect u.fetchInstr u.pastInstr
        exact .inr ⟨u, t, hf, hs, rfl, hh, ht, by simp [State.runInstr, ht]⟩
  · obtain ⟨r, hr⟩ := Option.ne_none_iff_exists'.1 hf
    exact .inl ⟨r, hr, by rw [h0, State.stepBody, hr]⟩

end Sys2Proof.Machine
end

