-- ==== Sys2Proof/Tests/Slice0.lean ====
section
/-! SUPPORT. The model's own tests. Expected values come from 95_test_vectors.md, or from the rule named; the second half shows,
for each obligation with hypotheses, a state and operands that meet them. -/

namespace Sys2Proof.Tests

open Sys2Proof.Machine Sys2Proof.Statements

-- One theorem at a time: each waits for the kernel, and a stack for every waiting one is more memory than there is.
set_option Elab.async false

/-! ### Helpers -/

/-- One part of a next state. -/
def got {α : Type} (r : Result) (part : State → α) : Option α :=
  match r with
  | .next t => some (part t)
  | .fault _ => none
  | .refused _ => none

/-- One part of the state a host interaction gives. -/
def hosted {α : Type} (r : HostReply) (part : State → α) : Option α :=
  match r with
  | .done t => some (part t)
  | .failed _ => none

/-- One part of the state a load gives, and what became of its battery RAM. -/
def loadedWith {α : Type} (r : LoadReply) (part : State → α) : Option (α × Option HostFailure) :=
  match r with
  | .loaded t why => some (part t, why)
  | .failed _ => none

/-- The reset state with some bytes of `mem`. -/
def withBytes (l : List (Nat × Byte)) : State := l.foldl (fun s p => s.pokeMem p.1 p.2) State.reset

/-- The reset state with an MBC1 cartridge. -/
def mbc : State := { State.reset with cartType := 0x01 }

/-! ### WellFormed and Decode -/

theorem test_escape_is_not_well_formed : WellFormed (.prefix_CB 0x37) = false := by decide
theorem test_cb_row_is_well_formed : WellFormed .swap_A = true := by decide
theorem test_no_bytes : decode [] = .error .noBytes := by decide
theorem test_truncated : decode [0x3E] = .error (.truncated 0x3E) := by decide
theorem test_truncated_escape : decode [0xCB] = .error (.truncated 0xCB) := by decide

-- The words are the Encoding lines of files 40 to 47.
theorem test_decode_load8 : decode [0b01000001, 0xFF] = .ok (.ld_B_C, [0xFF]) := by decide
theorem test_decode_load8_imm : decode [0b00100110, 0xA5] = .ok (.ld_H_n 0xA5, []) := by decide
theorem test_decode_load16 : decode [0b00010001, 0x34, 0x12] = .ok (.ld_DE_nn 0x1234, []) := by decide
theorem test_decode_stack : decode [0b11100101] = .ok (.push_HL, []) := by decide
theorem test_decode_alu8 : decode [0b10011100] = .ok (.sbc_A_H, []) := by decide
theorem test_decode_alu16 : decode [0b00011001] = .ok (.add_HL_DE, []) := by decide
theorem test_decode_rotate : decode [0xCB, 0b00010101] = .ok (.rl_L, []) := by decide
theorem test_decode_bit : decode [0xCB, 0b01011110] = .ok (.bit_3_atHL, []) := by decide
theorem test_decode_control : decode [0b11011010, 0x00, 0x20] = .ok (.jp_C_nn 0x2000, []) := by decide
theorem test_decode_system : decode [0b00010000, 0x00] = .ok (.stop 0x00, []) := by decide
theorem test_table_word_of_a_cb_row : decodeTableWord 16 0xCB37 = some .swap_A := by decide
theorem test_table_word_of_a_base_row : decodeTableWord 24 0x1234C3 = some (.jp_nn 0x1234) := by decide
theorem test_short_table_word : decodeTableWord 8 0x3E = some (.ld_A_n 0x00) := by decide

/-! ### Instructions (L2.1 to L2.8) -/

theorem test_ld_reads_if : got (exec .ld_A_atBC { withBytes [(0xFF0F, 0x01)] with b := 0xFF, c := 0x0F }) (·.a) = some 0xE1 := by
  decide +kernel
theorem test_ld_store_echoes :
    got (exec (.ld_atHL_n 0x99) { State.reset with h := 0xDD, l := 0xFF })
      (fun t => (t.memAt 0xDDFF, t.memAt 0xFDFF, t.stepCycles)) = some (0x99, 0x99, 12) := by decide +kernel
theorem test_ld_hli_wraps :
    got (exec .ld_atHLi_A { State.reset with a := 0x1F, h := 0xFF, l := 0xFF })
      (fun t => (t.memAt 0xFFFF, t.h, t.l)) = some (0x1F, 0x00, 0x00) := by decide +kernel
theorem test_ld_sp_wraps :
    got (exec (.ld_atnn_SP 0xFFFF) { State.reset with sp := 0x1234 }) (fun t => (t.memAt 0xFFFF, t.stepCycles)) =
      some (0x34, 20) := by decide +kernel
theorem test_ld_hl_sp_negative :
    got (exec (.ld_HL_SPe 0xFF) { State.reset with sp := 0x0001 }) (fun t => (t.h, t.l, t.f)) = some (0x00, 0x00, 0x30) := by
  decide +kernel
theorem test_push_order :
    got (exec .push_BC { State.reset with b := 0x12, c := 0x34 }) (fun t => (t.memAt 0xFFFD, t.memAt 0xFFFC, t.sp)) =
      some (0x12, 0x34, 0xFFFC) := by decide +kernel
theorem test_pop_af_masks :
    got (exec .pop_AF { withBytes [(0xC100, 0xFF), (0xC101, 0x12)] with sp := 0xC100 }) (fun t => (t.a, t.f, t.sp)) =
      some (0x12, 0xF0, 0xC102) := by decide +kernel
theorem test_add : got (exec .add_A_B { State.reset with a := 0x3A, b := 0xC6 }) (fun t => (t.a, t.f)) = some (0x00, 0xB0) := by
  decide +kernel
theorem test_sbc :
    got (exec (.sbc_A_n 0xFF) { State.reset with a := 0xFF, f := 0x10 }) (fun t => (t.a, t.f)) = some (0xFF, 0x70) := by
  decide +kernel
theorem test_cp_keeps_a :
    got (exec (.cp_n 0x40) { State.reset with a := 0x3C }) (fun t => (t.a, t.f)) = some (0x3C, 0x50) := by decide +kernel
theorem test_inc_keeps_c : got (exec .inc_B { State.reset with b := 0x0F, f := 0x10 }) (fun t => (t.b, t.f)) = some (0x10, 0x30) := by
  decide +kernel
theorem test_daa_after_add : got (exec .daa { State.reset with a := 0x9A, f := 0x00 }) (fun t => (t.a, t.f)) = some (0x00, 0x90) := by
  decide +kernel
theorem test_daa_after_sub : got (exec .daa { State.reset with a := 0x45, f := 0x60 }) (fun t => (t.a, t.f)) = some (0x3F, 0x40) := by
  decide +kernel
theorem test_add_hl_keeps_z :
    got (exec .add_HL_BC { State.reset with h := 0x8A, l := 0x23, b := 0x06, c := 0x05, f := 0x80 })
      (fun t => (t.h, t.l, t.f)) = some (0x90, 0x28, 0xA0) := by decide +kernel
theorem test_add_sp : got (exec (.add_SP_e 0x80) { State.reset with sp := 0x0080 }) (fun t => (t.sp, t.f)) = some (0x0000, 0x10) := by
  decide +kernel
theorem test_rla : got (exec .rla { State.reset with a := 0x95, f := 0x10 }) (fun t => (t.a, t.f)) = some (0x2B, 0x10) := by
  decide +kernel
theorem test_rlca_preserves_z :
    got (exec .rlca { State.reset with a := 0x00, f := 0x80, cfg := { Config.default with accRotateZ := .preserve } }) (·.f) =
      some 0x80 := by decide +kernel
theorem test_swap_in_memory :
    got (exec .swap_atHL { withBytes [(0xC000, 0xF0)] with h := 0xC0, l := 0x00, f := 0x10 })
      (fun t => (t.memAt 0xC000, t.f, t.stepCycles)) = some (0x0F, 0x00, 16) := by decide +kernel
theorem test_sra : got (exec .sra_A { State.reset with a := 0x8A, f := 0x00 }) (fun t => (t.a, t.f)) = some (0xC5, 0x00) := by
  decide +kernel
theorem test_bit_in_memory :
    got (exec .bit_3_atHL { withBytes [(0xC000, 0x08)] with h := 0xC0, l := 0x00, f := 0xD0 }) (fun t => (t.f, t.stepCycles)) =
      some (0x30, 12) := by decide +kernel
theorem test_set_on_div_clears_it :
    got (exec .set_0_atHL { withBytes [(0xFF04, 0x40)] with h := 0xFF, l := 0x04 }) (·.memAt 0xFF04) = some 0x00 := by
  decide +kernel
theorem test_jr_wraps : got (exec (.jr_e 0x10) { State.reset with pc := 0xFFF2 }) (·.pc) = some 0x0002 := by decide +kernel
theorem test_jp_not_taken :
    got (exec (.jp_NZ_nn 0x2000) { State.reset with pc := 0xC203, f := 0x80 }) (fun t => (t.pc, t.stepCycles)) =
      some (0xC203, 12) := by decide +kernel
theorem test_call :
    got (exec (.call_nn 0x1234) { State.reset with pc := 0xC203 })
      (fun t => (t.pc, t.sp, t.memAt 0xFFFD, t.memAt 0xFFFC, t.stepCycles)) = some (0x1234, 0xFFFC, 0xC2, 0x03, 24) := by
  decide +kernel
theorem test_reti :
    got (exec .reti { withBytes [(0xFFFC, 0x03), (0xFFFD, 0x02)] with sp := 0xFFFC }) (fun t => (t.pc, t.sp, t.ime, t.imePending)) =
      some (0x0203, 0xFFFE, true, false) := by decide +kernel
theorem test_rst : got (exec .rst_38H { State.reset with pc := 0xC201 }) (fun t => (t.pc, t.memAt 0xFFFC)) = some (0x0038, 0x01) := by
  decide +kernel
theorem test_illegal :
    got (exec .illegal_D3 { State.reset with pc := 0xC201 }) (fun t => (t.pc, t.fault)) = some (0xC201, some ⟨0xD3, 0xC200⟩) := by
  decide +kernel

/-! ### The bus (L2.9) -/

theorem test_remap :
    ((mbc.writeByte 0x4000 0x20).writeByte 0x2100 0x20).romBank = 0x21 ∧ (mbc.writeByte 0x2100 0x00).romBank = 0x01 := by
  decide +kernel
theorem test_ram_enable :
    (mbc.writeByte 0x0000 0x1A).ramEnabled = true ∧ (mbc.writeByte 0x0000 0x0B).ramEnabled = false := by decide +kernel
theorem test_serial :
    ((withBytes [(0xFF01, 0x41)]).writeByte 0xFF02 0x81).outputs = [.serialOut 0x41] ∧
    ((withBytes [(0xFF01, 0x41)]).writeByte 0xFF02 0x80).outputs = [] := by decide +kernel
theorem test_joypad :
    ({ withBytes [(0xFF00, 0x10)] with buttons := 0x11 } : State).readByte 0xFF00 = 0xDE ∧
    ({ withBytes [(0xFF00, 0x00)] with buttons := 0x21 } : State).readByte 0xFF00 = 0xCC := by decide +kernel
theorem test_dma :
    let t := (withBytes [(0xC100, 0x5A), (0xC19F, 0xC5)]).writeByte 0xFF46 0xC1
    t.memAt 0xFE00 = 0x5A ∧ t.memAt 0xFE9F = 0xC5 ∧ t.memAt 0xFF46 = 0xC1 := by decide +kernel

/-! ### The step and the devices (L1.4, L1.8, R600) -/

theorem test_timer_overflow :
    let t := (withBytes [(0xFF07, 0x07), (0xFF05, 0xFF), (0xFF06, 0xAB)]).timerUpdate 256
    t.memAt 0xFF05 = 0xAB ∧ t.memAt 0xFF0F = 0x04 ∧ t.timaAcc = 0 ∧ t.memAt 0xFF04 = 0x01 := by decide +kernel
theorem test_interrupt_priority :
    got (step { withBytes [(0xFFFF, 0x05), (0xFF0F, 0x05), (0x0040, 0xD9)] with ime := true, pc := 0xC200, sp := 0xD000 })
      (fun t => (t.pc, t.sp, t.ime, t.memAt 0xFF0F, t.cycleCount)) = some (0xC200, 0xD000, true, 0x04, 36) := by decide +kernel
theorem test_placed_word_runs : got (step (State.reset.withFetchWord 16 0x5A3E)) (fun t => (t.a, t.pc)) = some (0x5A, 0x0102) := by
  decide +kernel
theorem test_placed_cb_word_runs : got (step (State.reset.withFetchWord 16 0xCB37)) (fun t => (t.a, t.pc)) = some (0x10, 0x0102) := by
  decide +kernel
theorem test_unsupported_cartridge : -- R601: image[0x147] = 0x04
    loadedWith (State.reset.loadCartridge (some (List.replicate 0x147 0x00 ++ [0x04])) none) (·.pc) = none := by decide +kernel
theorem test_battery_at_load : -- R601 step 4, U3: types 0x03 and 0x01, with and without battery RAM
    let image (t : Byte) := some (List.replicate 0x147 0x00 ++ [t])
    let first (s : State) := s.ramAt 0
    loadedWith (mbc.loadCartridge (image 0x03) (some [0x5A])) first = some (0x5A, none) ∧
    loadedWith (mbc.loadCartridge (image 0x03) none) first = some (0x00, some .fileMissing) ∧
    loadedWith (mbc.loadCartridge (image 0x01) (some [0x5A])) first = some (0x00, some .noBattery) := by decide +kernel
theorem test_load_state_needs_both : -- R560
    State.reset.loadState (some [0x5A]) none = .failed .fileMissing ∧
    hosted (mbc.loadState (some [0x5A]) (some State.reset.saveState.registers)) (fun t => (t.memAt 0, t.a)) = some (0x5A, 0x01) := by
  decide +kernel

/-! ### Witnesses: states and operands that meet the hypotheses of the obligations -/

/-- A running MBC1 machine with its cartridge RAM enabled. -/
def running : State := { State.reset with cartType := 0x01, ramEnabled := true }

/-- With NOP at PC (memory lists nothing there). -/
def atNop : State := { running with pc := 0xC200 }

/-- Halted, with no interrupt enabled. -/
def sleeping : State := { running with halted := true }

/-- With one interrupt source pending and enabled. -/
def pendingAt (mask : Byte) (on : Bool) : State := { withBytes [(0xFFFF, mask), (0xFF0F, mask)] with ime := on }

theorem witness_DecodeOfEncode : WellFormed (.jp_nn 0xFFFF) = true := by decide
theorem witness_EncodeOfDecoded : decode [0xCB, 0xFF, 0x00] = .ok (.set_7_A, [0x00]) := by decide
theorem witness_LengthByFirstByte :
    decode [0x00] = .ok (.nop, []) ∧ decode [0x3E, 0x5A] = .ok (.ld_A_n 0x5A, []) ∧
    decode [0xC3, 0x50, 0x01] = .ok (.jp_nn 0x0150, []) := by decide
theorem witness_IllegalOpcodes : ((0xD3, .illegal_D3) : Byte × Instr) ∈ illegal ∧ ((0xFD, .illegal_FD) : Byte × Instr) ∈ illegal := by
  decide
theorem witness_RotatesReturn :
    readsBack running 0x8000 ∧ readsBack running 0xFE9F ∧ readsBack running 0xFF80 ∧ readsBack running 0xFFFF ∧
    readsBack running 0xA000 ∧ readsBack running 0xBFFF := by
  refine ⟨.inl ?_, .inr (.inl ?_), .inr (.inr (.inl ?_)), .inr (.inr (.inl ?_)), .inr (.inr (.inr ?_)), .inr (.inr (.inr ?_))⟩ <;>
    decide

/-- A step's hypotheses hold of a NOP at PC. -/
theorem witness_StepRunsDecodedInstruction : atNop.Enabled ∧ (serviced atNop).halted = false ∧ AtPc (serviced atNop) .nop :=
  ⟨⟨rfl, rfl⟩, by decide +kernel, [0x00, 0x00], by decide +kernel⟩

theorem witness_StepOutcomes :
    ({ running with fault := some ⟨0xD3, 0xC200⟩ } : State).fault = some ⟨0xD3, 0xC200⟩ ∧
    ({ running with stopped := true } : State).Holding ∧ (sleeping.Enabled ∧ (serviced sleeping).halted = true) :=
  ⟨rfl, ⟨rfl, rfl⟩, ⟨rfl, rfl⟩, by decide +kernel⟩

theorem witness_IllegalOpcodeStep :
    let s := { withBytes [(0xC200, 0xD3)] with pc := 0xC200 }
    s.Enabled ∧ (serviced s).halted = false ∧ (serviced s).readByte (serviced s).pc = 0xD3 :=
  ⟨⟨rfl, rfl⟩, by decide +kernel, by decide +kernel⟩

/-- Both clauses of the delay: EI pending before an instruction that is not DI, and before DI. -/
theorem witness_EiDelay :
    let s := { atNop with imePending := true }
    let r := { withBytes [(0xC200, 0xF3)] with pc := 0xC200, imePending := true }
    (s.Enabled ∧ AtPc (serviced s) .nop ∧ (serviced s).imePending = true) ∧ (r.Enabled ∧ AtPc (serviced r) .di) :=
  ⟨⟨⟨rfl, rfl⟩, ⟨[0x00, 0x00], by decide +kernel⟩, by decide +kernel⟩, ⟨rfl, rfl⟩, ⟨[0x00, 0x00], by decide +kernel⟩⟩

/-- Nothing pending; pending with IME off; the lowest and the highest source with IME on. -/
theorem witness_InterruptService :
    State.reset.pendingIrqs = 0 ∧ ((pendingAt 0x04 false).pendingIrqs ≠ 0 ∧ (pendingAt 0x04 false).ime = false) ∧
    ((pendingAt 0x1F true).pendingIrqs.getLsbD 0 = true ∧ (pendingAt 0x1F true).ime = true) ∧
    ((pendingAt 0x10 true).pendingIrqs.getLsbD 4 = true ∧ ∀ j : Fin 4, (pendingAt 0x10 true).pendingIrqs.getLsbD j = false) := by
  decide +kernel

/-- The two ends of every window of ReadByte and WriteByte lie where the clauses put them, and no two clauses meet. -/
theorem witness_BusReads :
    State.reset.readByte 0x3FFF = State.reset.memAt 0x3FFF ∧ State.reset.readByte 0x4000 = State.reset.romAt 0x4000 ∧
    State.reset.readByte 0x7FFF = State.reset.romAt 0x7FFF ∧ State.reset.readByte 0xA000 = 0xFF ∧
    running.readByte 0xBFFF = running.ramAt 0x1FFF ∧ State.reset.readByte 0xFF0F = 0xE0 ∧
    State.reset.readByte 0xFF10 = 0xFF ∧ State.reset.readByte 0xFF3F = 0xFF ∧ State.reset.readByte 0xFF40 = 0x91 := by
  decide +kernel

theorem witness_BusWrites :
    (State.reset.writeByte 0x7FFF 0x01).mem = [] ∧ (State.reset.writeByte 0xBFFF 0x01).ram = [] ∧
    (running.writeByte 0xBFFF 0x01).ram = [(0x1FFF, 0x01)] ∧ (running.writeByte 0xDDFF 0x01).mem = [(0xDDFF, 0x01), (0xFDFF, 0x01)] ∧
    (running.writeByte 0xE000 0x01).mem = [(0xC000, 0x01), (0xE000, 0x01)] ∧ (running.writeByte 0xFEFF 0x01).mem = [] ∧
    (running.writeByte 0xFF44 0x01).mem = [] ∧ (running.writeByte 0xFF4B 0x01).mem = [(0xFF4B, 0x01)] ∧
    (running.writeByte 0xFF80 0x01).mem = [(0xFF80, 0x01)] := by decide +kernel

theorem witness_RomBankSelect :
    running.cartType ≠ 0x00 ∧ (running.writeByte 0x1FFF 0x00).ramEnabled = false ∧ (running.writeByte 0x2000 0x1F).romBank = 0x1F ∧
    (running.writeByte 0x3FFF 0x1F).romBank = 0x1F := by decide +kernel

theorem witness_UpperBitsAndMode :
    running.mbcMode = false ∧ (running.writeByte 0x4000 0x60).romBank = 0x61 ∧ (running.writeByte 0x7FFF 0x01).mbcMode = true ∧
    (({ running with mbcMode := true } : State).writeByte 0x5FFF 0x02).ramBank = 2 := by decide +kernel

theorem witness_DmaAndBootUnmap :
    (0xFF4C : Word).toNat = 0xFF4C ∧ ({ running with bootMapped := true } : State).bootMapped = true ∧
    (({ running with bootMapped := true } : State).writeByte 0xFF7F 0x01).bootMapped = false ∧
    (({ running with bootMapped := true } : State).writeByte 0xFF4C 0x02).bootMapped = true := by decide +kernel

/-- A stack in HRAM, and one in enabled cartridge RAM. -/
theorem witness_StoreThenLoad :
    (running.writeByte 0xA000 0x5A).readByte 0xA000 = 0x5A ∧ readsBack running (running.sp - 1) ∧ readsBack running (running.sp - 2) ∧
    let s := { running with sp := 0xC000 }
    readsBack s (s.sp - 1) ∧ readsBack s (s.sp - 2) :=
  ⟨by decide +kernel, .inr (.inr (.inl (by decide))), .inr (.inr (.inl (by decide))), .inr (.inr (.inr (by decide))),
    .inr (.inr (.inr (by decide)))⟩

/-- A store and a byte it does not reach. -/
theorem witness_MemoryFrame :
    let s := { running with h := 0xC0, l := 0x00 }
    WellFormed (.ld_atHL_n 0x99) = true ∧ (∃ t, exec (.ld_atHL_n 0x99) s = .next t) ∧
    storesOf (.ld_atHL_n 0x99) s = [(0xC000, 0x99)] ∧ ¬ reaches s 0xC000 0x99 0xC001 :=
  ⟨rfl, ⟨_, rfl⟩, by decide +kernel, by unfold reaches; decide +kernel⟩

theorem witness_TimerUpdate :
    ioBit State.reset 0xFF07 2 = false ∧ ioBit (withBytes [(0xFF07, 0x04)]) 0xFF07 2 = true := by decide +kernel

theorem witness_LcdDisabled :
    ioBit (withBytes [(0xFF40, 0x00)]) 0xFF40 7 = false ∧ ioBit State.reset 0xFF40 7 = true ∧ State.reset.lcdAcc + 455 < 456 := by
  decide +kernel

/-- Also for LcdLine and ScanlineWrap: the display is on, LY is 0 and the accumulator is 0. -/
theorem witness_ScanlineWrap :
    ioBit State.reset 0xFF40 7 = true ∧ State.reset.memAt 0xFF44 = 0 ∧ State.reset.lcdAcc = 0 := by decide +kernel

/-- An address from 8000 on in no row of the table, and one below. -/
theorem witness_ResetValues : (∀ p ∈ ioTable, 0xFF0F ≠ p.1) ∧ (∀ p ∈ ioTable, 0x8000 ≠ p.1) ∧ 0x7FFF < 0x8000 := by decide

theorem witness_RenderedPixels : State.reset.framebuffer.length = 144 ∧ 143 < 144 ∧ 159 < 160 := by decide +kernel

/-- A type above 0x03 fails; a boot ROM of 256 bytes is loaded. -/
theorem witness_LoadCartridgeResets :
    imageType (List.replicate 0x147 0x00 ++ [0x04]) = 0x04 ∧ imageType [] = 0x00 ∧
    loadedWith (({ running with cfg := { Config.default with bootRom := some (List.replicate 256 0x31) } } : State).loadCartridge
      (some []) none) (fun t => (t.pc, t.bootMapped, t.memAt 0x00FF)) = some ((0x0000, true, 0x31), some .noBattery) ∧
    ({ running with cartType := 0x03 } : State).saveBatteryRam.isSome = true := by decide +kernel

theorem witness_KeyPresses :
    ({ running with buttons := 0x80 } : State).buttons.getLsbD 7 = true ∧ running.buttons.getLsbD 0 = false := by decide +kernel

/-- Nothing is listed in `mem` of the running machine. -/
theorem running_plain (a : Nat) (h1 : 0x8000 ≤ a) (h2 : a < 0xFF05) : running.memAt a = 0x00 := by
  have hk : ∀ p ∈ ioResetBytes, 0xFF05 ≤ p.1 := by decide
  have hl : ioResetBytes.lookup a = none := by
    rw [List.lookup_eq_none_iff]
    intro p hp
    have := hk p hp
    exact bne_iff_ne.2 (show a ≠ p.1 by omega)
  show memDefault Config.default a = 0x00
  unfold memDefault
  rw [if_neg (by omega)]
  simp only [Config.default, hl]

/-- For StepKeepsInvariant and HostKeepsInvariant: the running machine meets the invariant, and steps. -/
theorem witness_StepKeepsInvariant : running.Inv ∧ ∃ t, step running = .next t := by
  have hstep : got (step running) (·.pc) = some 0x0101 := by decide +kernel
  refine ⟨⟨⟨rfl, rfl, rfl⟩, fun a h1 h2 => ?_, rfl, ?_, ⟨?_, fun h => ?_⟩, ?_, ⟨rfl, ?_⟩, ⟨?_, fun _ => ?_, rfl⟩⟩, ?_⟩
  · rw [running_plain a (by omega) (by omega), running_plain (a + 0x2000) (by omega) (by omega)]
  · unfold State.BankReachable
    decide
  · decide
  · exact absurd h (by decide)
  · show (running.memAt 0xFF44).toNat ≤ 153
    decide +kernel
  · intro row hrow
    cases List.eq_of_mem_replicate hrow
    exact ⟨rfl, fun p hp => .inl (List.eq_of_mem_replicate hp)⟩
  · decide
  · decide
  · cases h : step running with
    | next t => exact ⟨t, rfl⟩
    | fault r => rw [h] at hstep; cases hstep
    | refused r => rw [h] at hstep; cases hstep

/-- A mirrored state with a reachable bank, before and after two stores; and a state without a controller. -/
theorem witness_BusWriteFrame :
    running.EchoMirrored ∧ running.BankReachable ∧ State.reset.cartType = 0x00 ∧
    (Statements.stored [(0xC000, 0x01), (0x2000, 0x05)] running).mem = [(0xC000, 0x01), (0xE000, 0x01)] ∧
    (Statements.stored [(0xC000, 0x01), (0x2000, 0x05)] running).romBank = 0x05 :=
  ⟨witness_StepKeepsInvariant.1.echo, witness_StepKeepsInvariant.1.bank, rfl, by decide +kernel, by decide +kernel⟩

theorem witness_HostKeepsInvariant :
    running.cfg.initMem.toNat ≤ 153 ∧ (loadedWith (running.loadCartridge (some []) none) (·.pc)).isSome = true ∧
    (hosted (({ running with cartType := 0x03 } : State).loadBatteryRam (some [0x5A])) (·.ramAt 0)).isSome = true := by decide +kernel

/-- A step that raises no fault, with the default cycle table. -/
theorem witness_StepFrame :
    running.cfg.cycleTable = [] ∧ got (step atNop) (fun t => (t.fault, t.cycleCount)) = some (none, 4) := by decide +kernel

/-- A table that names one cost and not another, after an entry for a third. -/
theorem witness_CycleTableOnlyCosts :
    let table : List (CostKey × Nat) := [(.taken 0x20, 16), (.base 0x00, 8)]
    table = [(.taken 0x20, 16)] ++ (.base 0x00, 8) :: [] ∧ (∀ p ∈ [((.taken 0x20, 16) : CostKey × Nat)], p.1 ≠ .base 0x00) ∧
    (∀ p ∈ table, p.1 ≠ .cb 0x00) ∧ got (exec .nop (withTable State.reset table)) (·.stepCycles) = some 8 ∧
    got (exec .rlc_B (withTable State.reset table)) (·.stepCycles) = some 8 ∧ got (exec .nop State.reset) (·.stepCycles) = some 4 := by
  decide +kernel

end Sys2Proof.Tests
end

/-! ## Proofs about the bus and the stack (20_memory.md; 41_load16.md R235, R236) -/

section
/-! The rows of WriteByte, one equation each, for the addresses of the row (R100). -/

namespace Sys2Proof.Machine

/-- R108, R110, R115, and R105 with the RAM disabled. -/
theorem State.writeByte_ignored (s : State) (x : Word) (v : Byte)
    (h : (s.cartType = 0x00 ∧ x.toNat ≤ 0x7FFF) ∨ (0xA000 ≤ x.toNat ∧ x.toNat ≤ 0xBFFF ∧ s.ramEnabled = false) ∨
      (0xFEA0 ≤ x.toNat ∧ x.toNat ≤ 0xFEFF) ∨ x.toNat = 0xFF44) : s.writeByte x v = s := by
  obtain ⟨hc, hx⟩ | ⟨h1, h2, he⟩ | ⟨h1, h2⟩ | hx := h
  · exact if_pos ⟨hx, hc⟩
  · simp (disch := omega) only [State.writeByte, if_neg, if_pos, he, Bool.false_eq_true, if_false]
  · simp (disch := omega) only [State.writeByte, if_neg, if_pos]
  · simp (disch := omega) only [State.writeByte, if_neg, if_pos]

section
variable (s : State) {x : Word} (v : Byte)

/-- R101. -/
theorem State.writeByte_ramEnable (hc : s.cartType ≠ 0x00) (h : x.toNat ≤ 0x1FFF) :
    s.writeByte x v = s.ramEnableWrite v := by
  simp (disch := omega) only [State.writeByte, hc, and_false, if_false, if_pos]

/-- R102. -/
theorem State.writeByte_romBank (hc : s.cartType ≠ 0x00) (h1 : 0x2000 ≤ x.toNat) (h2 : x.toNat ≤ 0x3FFF) :
    s.writeByte x v = s.selectRomBank v := by
  simp (disch := omega) only [State.writeByte, hc, and_false, if_false, if_neg, if_pos]

/-- R105. -/
theorem State.writeByte_cartRam (he : s.ramEnabled = true) (h1 : 0xA000 ≤ x.toNat) (h2 : x.toNat ≤ 0xBFFF) :
    s.writeByte x v = s.pokeRam (s.ramOffset x.toNat) v := by
  simp (disch := omega) only [State.writeByte, he, if_true, if_neg, if_pos]

/-- R106. -/
theorem State.writeByte_work (h1 : 0xC000 ≤ x.toNat) (h2 : x.toNat ≤ 0xDDFF) :
    s.writeByte x v = (s.pokeMem x.toNat v).pokeMem (x.toNat + 0x2000) v := by
  simp (disch := omega) only [State.writeByte, if_neg, if_pos]

/-- R107. -/
theorem State.writeByte_echo (h1 : 0xE000 ≤ x.toNat) (h2 : x.toNat ≤ 0xFDFF) :
    s.writeByte x v = (s.pokeMem x.toNat v).pokeMem (x.toNat - 0x2000) v := by
  simp (disch := omega) only [State.writeByte, if_neg, if_pos]

/-- R109. -/
theorem State.writeByte_div (h : x.toNat = 0xFF04) : s.writeByte x v = s.pokeMem 0xFF04 0x00 := by
  simp (disch := omega) only [State.writeByte, if_neg, if_pos]

/-- R113. -/
theorem State.writeByte_serial (h : x.toNat = 0xFF02) : s.writeByte x v = (s.pokeMem 0xFF02 v).serialHook v := by
  simp (disch := omega) only [State.writeByte, if_neg, if_pos]
  rw [h]

/-- R114. -/
theorem State.writeByte_plain
    (h : (0x8000 ≤ x.toNat ∧ x.toNat ≤ 0x9FFF) ∨ (0xDE00 ≤ x.toNat ∧ x.toNat ≤ 0xDFFF) ∨
      (0xFE00 ≤ x.toNat ∧ x.toNat ≤ 0xFE9F) ∨ (0xFF80 ≤ x.toNat) ∨
      (0xFF00 ≤ x.toNat ∧ x.toNat ≤ 0xFF4B ∧ x.toNat ≠ 0xFF02 ∧ x.toNat ≠ 0xFF04 ∧ x.toNat ≠ 0xFF44 ∧ x.toNat ≠ 0xFF46)) :
    s.writeByte x v = s.pokeMem x.toNat v := by
  simp (disch := omega) only [State.writeByte, if_neg]

end

/-- The serial hook reads SB, which the write to SC before it does not touch (R113). -/
theorem State.serialHook_pokeMem (s : State) (v : Byte) :
    (s.pokeMem 0xFF02 v).serialHook v =
      ({ s with outputs := if v = s.cfg.serialHookValue then .serialOut (s.memAt 0xFF01) :: s.outputs else s.outputs } :
        State).pokeMem 0xFF02 v := by
  have hSB : (s.pokeMem 0xFF02 v).memAt 0xFF01 = s.memAt 0xFF01 := State.memAt_pokeMem_other s v (by decide)
  have hcfg : (s.pokeMem 0xFF02 v).cfg = s.cfg := rfl
  rw [State.serialHook, hcfg, hSB]
  split <;> rfl

/-! ### FF00 and the bank controller's bits -/

theorem State.readByte_joypad (s : State) : s.readByte 0xFF00 = s.joypadRead := rfl

/-- Bit `i` of FF00: a fixed 1, a stored select bit, or the complement of the pressed buttons of the selected groups (R94). -/
theorem State.joypadRead_getLsbD (s : State) {i : Nat} (hi : i < 8) :
    s.joypadRead.getLsbD i =
      ((0xC0#8).getLsbD i || ((s.memAt 0xFF00).getLsbD i && (0x30#8).getLsbD i) ||
        ((0x0F#8).getLsbD i && !((!(s.memAt 0xFF00).getLsbD 4 && s.buttons.getLsbD i) ||
          (!(s.memAt 0xFF00).getLsbD 5 && s.buttons.getLsbD (i + 4))))) := by
  cases hd : (s.memAt 0xFF00).getLsbD 4 <;> cases ha : (s.memAt 0xFF00).getLsbD 5 <;> cases hn : (0x0F#8).getLsbD i <;>
    simp [-BitVec.getLsbD_eq_getElem, State.joypadRead, getBit, hd, ha, hn, hi, Nat.add_comm 4]

/-- The low nibble test of R101. -/
theorem and_0x0F_eq_0x0A (v : Byte) : (v &&& 0x0F = 0x0A) ↔ v.toNat % 16 = 0x0A := by
  rw [← BitVec.toNat_inj, BitVec.toNat_and]
  exact iff_of_eq (congrArg (· = 0x0A) (Nat.and_two_pow_sub_one_eq_mod v.toNat 4))

/-- The bank number before the remap: bits 6:5 kept, the low 5 bits from the value (R120). -/
theorem toNat_mergeLowBank (r : BitVec 7) (v : Byte) :
    ((r &&& 0x60) ||| (v &&& 0x1F).setWidth 7).toNat = r.toNat / 32 * 32 + v.toNat % 32 := by
  have hhigh : ∀ r : BitVec 7, (r &&& 0x60).toNat = 2 ^ 5 * (r.toNat / 32) := by decide
  have hlow : (v &&& 0x1F).toNat = v.toNat % 32 := by
    rw [BitVec.toNat_and]
    exact Nat.and_two_pow_sub_one_eq_mod v.toNat 5
  have hlt : v.toNat % 32 < 2 ^ 5 := Nat.mod_lt _ (by decide)
  rw [BitVec.toNat_or, BitVec.toNat_setWidth, hhigh, hlow, Nat.mod_eq_of_lt (show v.toNat % 32 < 2 ^ 7 by omega),
    ← Nat.two_pow_add_eq_or_of_lt hlt, Nat.mul_comm]

end Sys2Proof.Machine
end

section
/-! The statements' vocabulary and the model's: the same functions, written in integer arithmetic there. -/

namespace Sys2Proof.Statements

open Sys2Proof.Machine

/-! ### Encodings -/

/-- The bytes of a well-formed instruction encode it, whatever follows them (R161). -/
theorem encodes_encode {i : Instr} (h : Laws.Encoding.Statement i) (hw : WellFormed i = true) : encodes i (encode i) := by
  intro rest
  obtain ⟨b0, b1, b2, tail, hbytes, hdecode, hlen⟩ := h hw (rest.getD 0 0) (rest.getD 1 0)
  have hrange : 1 ≤ lengthOf b0 ∧ lengthOf b0 ≤ 3 := by
    unfold lengthOf
    split
    · decide
    · split <;> decide
  rcases he : encode i with _ | ⟨c0, _ | ⟨c1, _ | ⟨c2, _ | ⟨c3, cs⟩⟩⟩⟩ <;>
    simp only [he, List.length_nil, List.length_cons, List.cons_append, List.nil_append, List.cons.injEq] at hlen hbytes
  case nil | cons.cons.cons.cons => omega
  all_goals
    obtain ⟨rfl, rfl, rfl, -⟩ := hbytes
    simpa [decode, hlen, Nat.add_assoc] using hdecode

/-! ### Words and flags -/

theorem hiOf_eq_hiByte (w : Word) : hiOf w = hiByte w := by
  apply BitVec.eq_of_toNat_eq
  simp [hiOf, hiByte, Nat.shiftRight_eq_div_pow]

theorem loOf_eq_loByte (w : Word) : loOf w = loByte w := by
  apply BitVec.eq_of_toNat_eq
  simp [loOf, loByte]

theorem toNat_mkWord (hi lo : Byte) : (mkWord hi lo).toNat = 256 * hi.toNat + lo.toNat := by
  refine (BitVec.toNat_append hi lo).trans ?_
  rw [← Nat.shiftLeft_add_eq_or_of_lt lo.isLt, Nat.shiftLeft_eq, Nat.mul_comm]

theorem word_eq_mkWord (hi lo : Byte) : word hi lo = mkWord hi lo := by
  rw [word, ← toNat_mkWord, BitVec.ofNat_toNat, BitVec.setWidth_eq]

/-- The four flag bits of a byte, packed, are its high nibble (R34, R35). -/
theorem fByte_bits (f : Byte) : fByte (f.getLsbD 7) (f.getLsbD 6) (f.getLsbD 5) (f.getLsbD 4) = f &&& 0xF0 := by
  revert f; decide

theorem getStack_eq_stackPair (s : State) (q : StackPair) : getStack s q = s.stackPair q := by
  cases q
  case af => exact (word_eq_mkWord _ _).trans (congrArg (mkWord s.a) (fByte_bits s.f))
  all_goals exact word_eq_mkWord _ _

theorem getLsbD_loByte (w : Word) {i : Nat} (h : i < 8) : (loByte w).getLsbD i = w.getLsbD i := by
  simp [loByte, h]

theorem putStack_eq_setStackPair (s : State) (q : StackPair) (v : Word) : putStack s q v = s.setStackPair q v := by
  have hf : fByte (v.getLsbD 7) (v.getLsbD 6) (v.getLsbD 5) (v.getLsbD 4) = loByte v &&& 0xF0 := by
    rw [← fByte_bits]
    simp only [getLsbD_loByte, Nat.reduceLT]
  cases q <;>
    simp only [putStack, State.setStackPair, State.setBC, State.setDE, State.setHL, State.setAF, hiOf_eq_hiByte,
      loOf_eq_loByte, hf]

theorem charge_eq_spend (k : CostKey) (n : Nat) (t : State) : charge k n t = t.spend k n := rfl

/-! ### The stack -/

theorem pushed_eq_push (s : State) (v : Word) : pushed s v = s.push v := by
  have hsp : s.sp - 2 + 1 = s.sp - 1 := by bv_omega
  simp only [pushed, State.push, hiOf_eq_hiByte, loOf_eq_loByte, hsp]

theorem popWord_eq_popValue (s : State) : popWord s = s.popValue := word_eq_mkWord _ _

theorem exec_pushPair (s : State) (q : StackPair) :
    exec (pushPair q) s = .next ((s.push (s.stackPair q)).spend (.base (opc (0xC5 + 16 * stackCode q))) 16) := by
  cases q <;> rfl

theorem exec_popPair (s : State) (q : StackPair) :
    exec (popPair q) s = .next ((s.popped.setStackPair q s.popValue).spend (.base (opc (0xC1 + 16 * stackCode q))) 12) := by
  cases q <;> rfl

theorem encodes_pushPair (q : StackPair) : encodes (pushPair q) [opc (0xC5 + 16 * stackCode q)] := by
  cases q
  case bc => exact encodes_encode Laws.Encoding.push_BC rfl
  case de => exact encodes_encode Laws.Encoding.push_DE rfl
  case hl => exact encodes_encode Laws.Encoding.push_HL rfl
  case af => exact encodes_encode Laws.Encoding.push_AF rfl

theorem encodes_popPair (q : StackPair) : encodes (popPair q) [opc (0xC1 + 16 * stackCode q)] := by
  cases q
  case bc => exact encodes_encode Laws.Encoding.pop_BC rfl
  case de => exact encodes_encode Laws.Encoding.pop_DE rfl
  case hl => exact encodes_encode Laws.Encoding.pop_HL rfl
  case af => exact encodes_encode Laws.Encoding.pop_AF rfl

/-! ### Memory bytes and bank numbers -/

theorem bytesBecome_pokeMem (s : State) (a : Nat) (v : Byte) : BytesBecome (fun x => x = a) v s (s.pokeMem a v) := by
  refine ⟨rfl, fun x hx => ?_, fun x hx => State.memAt_pokeMem_other s v hx⟩
  rw [State.memAt_pokeMem, if_pos hx]

theorem bytesBecome_pokeMem_pokeMem (s : State) (a b : Nat) (v : Byte) :
    BytesBecome (fun x => x = a ∨ x = b) v s ((s.pokeMem a v).pokeMem b v) := by
  refine ⟨rfl, fun x hx => ?_, fun x hx => ?_⟩
  · rw [State.memAt_pokeMem, State.memAt_pokeMem]
    rcases hx with rfl | rfl <;> simp
  · obtain ⟨ha, hb⟩ := not_or.1 hx
    rw [State.memAt_pokeMem_other _ v hb, State.memAt_pokeMem_other _ v ha]

/-- The remap in integer arithmetic: the four numbers are the multiples of 32 (R120). -/
theorem remapBank_eq_bankAfterRemap (r : BitVec 7) : remapBank r = BitVec.ofNat 7 (bankAfterRemap r.toNat) := by
  revert r; decide

end Sys2Proof.Statements
end

section
/-! The obligations of 20_memory.md. -/

namespace Sys2Proof.Proofs

open Sys2Proof.Machine Sys2Proof.Statements

/-- Settles O12: the model's push at the addresses SP - 1 and SP - 2, of the pair as it reads. -/
theorem pushPair : Obligations.PushPair := by
  intro s q
  refine ⟨encodes_pushPair q, ?_⟩
  rw [exec_pushPair, charge_eq_spend, pushed_eq_push, getStack_eq_stackPair]

/-- Settles O13: the model's pop, with the pair written as the statement writes it. -/
theorem popPair : Obligations.PopPair := by
  intro s q
  refine ⟨encodes_popPair q, ?_⟩
  rw [exec_popPair, charge_eq_spend, putStack_eq_setStackPair, popWord_eq_popValue]
  rfl

/-- Settles O38: each of the eight bits by the law of JoypadRead's bits. -/
theorem joypadRead : Obligations.JoypadRead := by
  intro s
  rw [State.readByte_joypad]
  refine ⟨?_, ?_, ?_, ?_, fun i hi => ?_⟩
  case refine_5 =>
    have hmask : ∀ j < 4, (0x0F#8).getLsbD j = true ∧ (0x30#8).getLsbD j = false ∧ (0xC0#8).getLsbD j = false := by decide
    obtain ⟨h0F, h30, hC0⟩ := hmask i hi
    rw [s.joypadRead_getLsbD (by omega), h0F, h30, hC0, Bool.and_false, Bool.or_false, Bool.false_or, Bool.true_and]
  all_goals
    rw [s.joypadRead_getLsbD (by decide)]
    simp

/-- Settles O39: each clause is one row of WriteByte, and a row's raw writes become its bytes. -/
theorem busWrites : Obligations.BusWrites := by
  intro s x v
  refine ⟨s.writeByte_ignored x v, fun h1 h2 he => ?_, fun h1 h2 => ?_, fun h1 h2 => ?_, fun h => ?_, fun h => ?_, fun h => ?_⟩
  · rw [s.writeByte_cartRam v he h1 h2]
    exact ⟨rfl, fun a => s.ramAt_pokeRam _ a v⟩
  · rw [s.writeByte_work v h1 h2]
    exact bytesBecome_pokeMem_pokeMem s _ _ v
  · rw [s.writeByte_echo v h1 h2]
    exact bytesBecome_pokeMem_pokeMem s _ _ v
  · rw [s.writeByte_div v h]
    exact bytesBecome_pokeMem s _ _
  · rw [s.writeByte_serial v h, s.serialHook_pokeMem]
    exact bytesBecome_pokeMem _ _ v
  · rw [s.writeByte_plain v h]
    exact bytesBecome_pokeMem s _ v

/-- Settles O40, by the value of the low nibble and of the merged bank number. -/
theorem romBankSelect : Obligations.RomBankSelect := by
  intro s x v hc
  refine ⟨fun h => ?_, fun h1 h2 => ?_⟩
  · rw [s.writeByte_ramEnable v hc h, State.ramEnableWrite, decide_eq_decide.2 (and_0x0F_eq_0x0A v)]
  · rw [s.writeByte_romBank v hc h1 h2, State.selectRomBank, remapBank_eq_bankAfterRemap, toNat_mergeLowBank]

end Sys2Proof.Proofs
end

/-! ## Proofs about the 8-bit loads (40_load8.md) -/

section
/-! The registers, pairs and addresses of the statements are the model's; the loads' rows by family. -/

namespace Sys2Proof.Statements

open Sys2Proof.Machine

/-! ### Registers, pairs and addresses -/

theorem getReg_eq_reg (s : State) (r : Reg8) : getReg s r = s.reg r := by cases r <;> rfl

theorem putReg_eq_setReg (s : State) (r : Reg8) (v : Byte) : putReg s r v = s.setReg r v := by cases r <;> rfl

theorem bcOf_eq_bc (s : State) : bcOf s = s.bc := word_eq_mkWord _ _

theorem deOf_eq_de (s : State) : deOf s = s.de := word_eq_mkWord _ _

theorem hlOf_eq_hl (s : State) : hlOf s = s.hl := word_eq_mkWord _ _

theorem putPair_eq_setPair (s : State) (p : Pair) (v : Word) : putPair s p v = s.setPair p v := by
  cases p <;> simp only [putPair, State.setPair, State.setBC, State.setDE, State.setHL, hiOf_eq_hiByte, loOf_eq_loByte]

theorem page_eq_highPage (n : Byte) : page n = highPage n := by
  rw [page, highPage, zext16, BitVec.ofNat_add, BitVec.ofNat_toNat]

/-! ### Encodings and effects of the families indexed by a register -/

/-- `encodes_encode`, for an encoding written in another way. -/
theorem encodes_of_encode_eq {i : Instr} {bytes : List Byte} (h : Laws.Encoding.Statement i) (hw : WellFormed i = true)
    (he : encode i = bytes) : encodes i bytes :=
  he ▸ encodes_encode h hw

theorem encodes_ldRegReg (dst r : Reg8) : encodes (ldRegReg dst r) [opc (0x40 + 8 * code dst + code r)] := by
  have h : Laws.Encoding.Statement (ldRegReg dst r) := by
    cases dst <;> cases r <;> exact fun _ _ _ => ⟨_, _, _, _, rfl, rfl, rfl⟩
  cases dst <;> cases r <;> exact encodes_of_encode_eq h rfl rfl

theorem encodes_ldRegImm (dst : Reg8) (n : Byte) : encodes (ldRegImm dst n) [opc (0x06 + 8 * code dst), n] := by
  cases dst
  case b => exact encodes_encode (Laws.Encoding.ld_B_n n) rfl
  case c => exact encodes_encode (Laws.Encoding.ld_C_n n) rfl
  case d => exact encodes_encode (Laws.Encoding.ld_D_n n) rfl
  case e => exact encodes_encode (Laws.Encoding.ld_E_n n) rfl
  case h => exact encodes_encode (Laws.Encoding.ld_H_n n) rfl
  case l => exact encodes_encode (Laws.Encoding.ld_L_n n) rfl
  case a => exact encodes_encode (Laws.Encoding.ld_A_n n) rfl

theorem encodes_ldRegMem (dst : Reg8) : encodes (ldRegMem dst) [opc (0x46 + 8 * code dst)] := by
  cases dst
  case b => exact encodes_encode Laws.Encoding.ld_B_atHL rfl
  case c => exact encodes_encode Laws.Encoding.ld_C_atHL rfl
  case d => exact encodes_encode Laws.Encoding.ld_D_atHL rfl
  case e => exact encodes_encode Laws.Encoding.ld_E_atHL rfl
  case h => exact encodes_encode Laws.Encoding.ld_H_atHL rfl
  case l => exact encodes_encode Laws.Encoding.ld_L_atHL rfl
  case a => exact encodes_encode Laws.Encoding.ld_A_atHL rfl

theorem encodes_ldMemReg (r : Reg8) : encodes (ldMemReg r) [opc (0x70 + code r)] := by
  cases r
  case b => exact encodes_encode Laws.Encoding.ld_atHL_B rfl
  case c => exact encodes_encode Laws.Encoding.ld_atHL_C rfl
  case d => exact encodes_encode Laws.Encoding.ld_atHL_D rfl
  case e => exact encodes_encode Laws.Encoding.ld_atHL_E rfl
  case h => exact encodes_encode Laws.Encoding.ld_atHL_H rfl
  case l => exact encodes_encode Laws.Encoding.ld_atHL_L rfl
  case a => exact encodes_encode Laws.Encoding.ld_atHL_A rfl

/-- R201. -/
theorem exec_ldRegReg (s : State) (dst r : Reg8) :
    exec (ldRegReg dst r) s = .next ((s.setReg dst (s.reg r)).spend (.base (opc (0x40 + 8 * code dst + code r))) 4) := by
  cases dst <;> cases r <;> rfl

/-- R202. -/
theorem exec_ldRegImm (s : State) (dst : Reg8) (n : Byte) :
    exec (ldRegImm dst n) s = .next ((s.setReg dst n).spend (.base (opc (0x06 + 8 * code dst))) 8) := by
  cases dst <;> rfl

/-- R203. -/
theorem exec_ldRegMem (s : State) (dst : Reg8) :
    exec (ldRegMem dst) s = .next ((s.setReg dst (s.readByte s.hl)).spend (.base (opc (0x46 + 8 * code dst))) 8) := by
  cases dst <;> rfl

/-- R204. -/
theorem exec_ldMemReg (s : State) (r : Reg8) :
    exec (ldMemReg r) s = .next ((s.writeByte s.hl (s.reg r)).spend (.base (opc (0x70 + code r))) 8) := by
  cases r <;> rfl

end Sys2Proof.Statements
end

section
/-! The obligations of 40_load8.md. -/

namespace Sys2Proof.Proofs

open Sys2Proof.Machine Sys2Proof.Statements

/-- Settles O7: the rows by their registers, and the model's registers are the statement's. -/
theorem loadRegister : Obligations.LoadRegister := by
  intro s dst r n
  simp only [charge_eq_spend, putReg_eq_setReg, getReg_eq_reg]
  exact ⟨encodes_ldRegReg dst r, exec_ldRegReg s dst r, encodes_ldRegImm dst n, exec_ldRegImm s dst n⟩

/-- Settles O8: with the addresses and HL's step written as the model writes them, each row is its arm of `exec`. -/
theorem loadFromMemory : Obligations.LoadFromMemory := by
  intro s dst n nn
  simp only [charge_eq_spend, putReg_eq_setReg, putPair_eq_setPair, bcOf_eq_bc, deOf_eq_de, hlOf_eq_hl, page_eq_highPage,
    loOf_eq_loByte, hiOf_eq_hiByte]
  refine ⟨⟨encodes_ldRegMem dst, exec_ldRegMem s dst⟩, ⟨?_, rfl⟩, ⟨?_, rfl⟩, ⟨?_, rfl⟩, ⟨?_, rfl⟩, ⟨?_, rfl⟩, ⟨?_, rfl⟩,
    ⟨?_, rfl⟩⟩
  · exact encodes_encode Laws.Encoding.ld_A_atBC rfl
  · exact encodes_encode Laws.Encoding.ld_A_atDE rfl
  · exact encodes_encode (Laws.Encoding.ld_A_atnn nn) rfl
  · exact encodes_encode (Laws.Encoding.ldh_A_atn n) rfl
  · exact encodes_encode Laws.Encoding.ld_A_atC rfl
  · exact encodes_encode Laws.Encoding.ld_A_atHLi rfl
  · exact encodes_encode Laws.Encoding.ld_A_atHLd rfl

/-- Settles O9: as for the loads, with the bus write at the address that the model computes. -/
theorem storeToMemory : Obligations.StoreToMemory := by
  intro s r n nn
  simp only [charge_eq_spend, getReg_eq_reg, putPair_eq_setPair, bcOf_eq_bc, deOf_eq_de, hlOf_eq_hl, page_eq_highPage,
    loOf_eq_loByte, hiOf_eq_hiByte]
  refine ⟨⟨encodes_ldMemReg r, exec_ldMemReg s r⟩, ⟨?_, rfl⟩, ⟨?_, rfl⟩, ⟨?_, rfl⟩, ⟨?_, rfl⟩, ⟨?_, rfl⟩, ⟨?_, rfl⟩,
    ⟨?_, rfl⟩, ⟨?_, rfl⟩⟩
  · exact encodes_encode (Laws.Encoding.ld_atHL_n n) rfl
  · exact encodes_encode Laws.Encoding.ld_atBC_A rfl
  · exact encodes_encode Laws.Encoding.ld_atDE_A rfl
  · exact encodes_encode (Laws.Encoding.ld_atnn_A nn) rfl
  · exact encodes_encode (Laws.Encoding.ldh_atn_A n) rfl
  · exact encodes_encode Laws.Encoding.ld_atC_A rfl
  · exact encodes_encode Laws.Encoding.ld_atHLi_A rfl
  · exact encodes_encode Laws.Encoding.ld_atHLd_A rfl

end Sys2Proof.Proofs
end

/-! ## Proofs about the 16-bit loads and SP + e (41_load16.md; 43_alu16.md R304) -/

section
/-! Sign extension and the flag byte of the statements are the model's; LD rr,nn by its pair. -/

namespace Sys2Proof.Statements

open Sys2Proof.Machine

/-! ### SP + e -/

theorem fByte_eq_packFlags (z n h c : Bool) : fByte z n h c = packFlags z n h c := by
  revert z n h c; decide

/-- The displacement modulo 2^16 is the 16-bit add of the sign-extended byte (R8). -/
theorem displaced_eq_add_sext16 (w : Word) (e : Byte) : displaced w e = w + sext16 e := by
  rw [displaced, sext16, BitVec.signExtend, BitVec.ofInt_add, BitVec.ofInt_natCast, BitVec.ofNat_toNat,
    BitVec.setWidth_eq]

theorem spFlags_eq_packFlags (s : State) (e : Byte) :
    spFlags s e = packFlags false false (halfCarrySp s.sp e) (carrySp s.sp e) :=
  fByte_eq_packFlags _ _ _ _

/-! ### LD rr,nn -/

theorem encodes_ldPairImm (p : Pair) (nn : Word) :
    encodes (ldPairImm p nn) [opc (0x01 + 16 * pairCode p), loByte nn, hiByte nn] := by
  cases p
  case bc => exact encodes_encode (Laws.Encoding.ld_BC_nn nn) rfl
  case de => exact encodes_encode (Laws.Encoding.ld_DE_nn nn) rfl
  case hl => exact encodes_encode (Laws.Encoding.ld_HL_nn nn) rfl
  case sp => exact encodes_encode (Laws.Encoding.ld_SP_nn nn) rfl

/-- R231. -/
theorem exec_ldPairImm (s : State) (p : Pair) (nn : Word) :
    exec (ldPairImm p nn) s = .next ((s.setPair p nn).spend (.base (opc (0x01 + 16 * pairCode p))) 12) := by
  cases p <;> rfl

end Sys2Proof.Statements
end

section
/-! The obligations of 41_load16.md. -/

namespace Sys2Proof.Proofs

open Sys2Proof.Machine Sys2Proof.Statements

/-- Settles O11: with the sum and the flags written as the model writes them, both rows are their arms of `exec`. -/
theorem spPlusOffset : Obligations.SpPlusOffset := by
  intro s e
  simp only [charge_eq_spend, putPair_eq_setPair, displaced_eq_add_sext16, spFlags_eq_packFlags]
  refine ⟨⟨?_, rfl⟩, ⟨?_, rfl⟩⟩
  · exact encodes_encode (Laws.Encoding.ld_HL_SPe e) rfl
  · exact encodes_encode (Laws.Encoding.add_SP_e e) rfl

/-- Settles O10: the rows of LD rr,nn by their pair; LD (nn),SP is the model's two bus writes of SP's halves. -/
theorem loadPairAndSp : Obligations.LoadPairAndSp := by
  intro s p nn
  simp only [charge_eq_spend, putPair_eq_setPair, hlOf_eq_hl, loOf_eq_loByte, hiOf_eq_hiByte]
  refine ⟨⟨encodes_ldPairImm p nn, exec_ldPairImm s p nn⟩, ⟨?_, rfl⟩, ⟨?_, rfl⟩⟩
  · exact encodes_encode Laws.Encoding.ld_SP_HL rfl
  · exact encodes_encode (Laws.Encoding.ld_atnn_SP nn) rfl

end Sys2Proof.Proofs
end

/-! ## Proofs about 8-bit arithmetic and logic (42_alu8.md) -/

section
/-! The results and flags of the statements, in integer arithmetic, are the model's on bytes. -/

namespace Sys2Proof.Statements

open Sys2Proof.Machine

/-! ### ADD and SUB (R250) -/

theorem toNat_eq_zero_iff (v : Byte) : v.toNat = 0 ↔ v = 0 := BitVec.toNat_inj (y := 0)

theorem carryByte_eq_ofNat (c : Bool) : carryByte c = BitVec.ofNat 8 c.toNat := by cases c <;> rfl

theorem ofNat_sum_eq_add (a v : Byte) (c : Bool) :
    BitVec.ofNat 8 (a.toNat + v.toNat + c.toNat) = a + v + carryByte c := by
  simp only [carryByte_eq_ofNat, BitVec.ofNat_add, BitVec.ofNat_toNat, BitVec.setWidth_eq]

theorem added_eq_addA (s : State) (v : Byte) (c : Bool) : added s v c.toNat = s.addA v c := by
  have hzero : (s.a.toNat + v.toNat + c.toNat) % 256 = 0 ↔ s.a + v + carryByte c = 0 := by
    rw [← ofNat_sum_eq_add, ← BitVec.toNat_inj]
    exact Iff.rfl
  simp only [added, ofNat_sum_eq_add, hzero, fByte_eq_packFlags]
  rfl

theorem difference_eq_toNat_sub (s : State) (v : Byte) (c : Bool) :
    difference s v c.toNat = (s.a - v - carryByte c).toNat := by
  have hc : (carryByte c).toNat = c.toNat := by cases c <;> rfl
  have hle := c.toNat_le
  rw [difference, BitVec.toNat_sub, BitVec.toNat_sub, hc]
  omega

theorem compared_eq_compareA (s : State) (v : Byte) (c : Bool) : compared s v c.toNat = s.compareA v c := by
  simp only [compared, difference_eq_toNat_sub, toNat_eq_zero_iff, fByte_eq_packFlags]
  rfl

theorem subtracted_eq_subA (s : State) (v : Byte) (c : Bool) : subtracted s v c.toNat = s.subA v c := by
  rw [subtracted, compared_eq_compareA, difference_eq_toNat_sub, BitVec.ofNat_toNat, BitVec.setWidth_eq]
  rfl

/-! ### AND, XOR and OR (R263, R266, R269) -/

theorem logical_eq_setFlags (s : State) (res : Byte) (h : Bool) :
    logical s res h = ({ s with a := res } : State).setFlags (decide (res = 0)) false h false := by
  simp only [logical, toNat_eq_zero_iff, fByte_eq_packFlags]
  rfl

/-! ### INC and DEC (R275 to R278) -/

theorem incremented_eq_incFlags (s : State) (old : Byte) : incremented s old = s.incFlags old := by
  have hzero : (old.toNat + 1) % 256 = 0 ↔ old + 1 = 0 := by
    rw [← BitVec.toNat_inj, BitVec.toNat_add]
    exact Iff.rfl
  simp only [incremented, hzero, fByte_eq_packFlags]
  rfl

theorem decremented_eq_decFlags (s : State) (old : Byte) : decremented s old = s.decFlags old := by
  have hzero : old.toNat = 1 ↔ old - 1 = 0 := by
    rw [sub_eq_zero, ← BitVec.toNat_inj]
    exact Iff.rfl
  simp only [decremented, hzero, fByte_eq_packFlags]
  rfl

/-! ### DAA and CPL (R279, R280) -/

/-- The two adjustments share no bit, so DAA's OR of them is their sum (R279). -/
theorem toNat_daaAdjustment (high low : Bool) :
    ((if high then 0x60 else 0x00) ||| (if low then 0x06 else 0x00) : Byte).toNat = 0x60 * high.toNat + 0x06 * low.toNat := by
  revert high low; decide

/-- Both directions of DAA modulo 256 (R279). -/
theorem toNat_daaResult (n : Bool) (a adj : Byte) :
    (if n then (a.toNat + 256 - adj.toNat) % 256 else (a.toNat + adj.toNat) % 256) =
      (if n then a - adj else a + adj).toNat := by
  cases n
  case false => exact (BitVec.toNat_add a adj).symm
  case true =>
    simp only [if_true, BitVec.toNat_sub]
    omega

theorem decimalAdjusted_eq_daa (s : State) : decimalAdjusted s = s.daa := by
  simp only [decimalAdjusted, ← toNat_daaAdjustment, toNat_daaResult, BitVec.ofNat_toNat, BitVec.setWidth_eq,
    toNat_eq_zero_iff, fByte_eq_packFlags]
  rfl

theorem ofNat_255_sub_eq_not (v : Byte) : BitVec.ofNat 8 (0xFF - v.toNat) = ~~~v := by
  rw [← BitVec.toNat_inj, BitVec.toNat_not, BitVec.toNat_ofNat]
  omega

end Sys2Proof.Statements
end

section
/-! The rows of the eight operations on A, of INC r and of DEC r, by family. -/

namespace Sys2Proof.Statements

open Sys2Proof.Machine

/-- The y field of an operation on A (R160, R250). -/
def aluCode : AluOp → Nat
  | .add => 0 | .adc => 1 | .sub => 2 | .sbc => 3 | .and => 4 | .xor => 5 | .or => 6 | .cp => 7

/-- What an operation on A with the operand `v` computes, by its rule (R251 to R274). -/
def aluRule (op : AluOp) (s : State) (v : Byte) : State :=
  match op with
  | .add => added s v 0
  | .adc => added s v (cOf s).toNat
  | .sub => subtracted s v 0
  | .sbc => subtracted s v (cOf s).toNat
  | .and => logical s (s.a &&& v) true
  | .xor => logical s (s.a ^^^ v) false
  | .or => logical s (s.a ||| v) false
  | .cp => compared s v 0

/-- The model's operation for each of the eight. -/
def aluModel (op : AluOp) (s : State) (v : Byte) : State :=
  match op with
  | .add => s.addA v false
  | .adc => s.addA v s.flagC
  | .sub => s.subA v false
  | .sbc => s.subA v s.flagC
  | .and => s.andA v
  | .xor => s.xorA v
  | .or => s.orA v
  | .cp => s.compareA v false

theorem aluRule_eq_aluModel (op : AluOp) (s : State) (v : Byte) : aluRule op s v = aluModel op s v := by
  cases op
  case add => exact added_eq_addA s v false
  case adc => exact added_eq_addA s v s.flagC
  case sub => exact subtracted_eq_subA s v false
  case sbc => exact subtracted_eq_subA s v s.flagC
  case and | xor | or => exact logical_eq_setFlags s _ _
  case cp => exact compared_eq_compareA s v false

/-! ### Encodings -/

theorem encodes_aluReg (op : AluOp) (r : Reg8) : encodes (aluReg op r) [opc (0x80 + 8 * aluCode op + code r)] := by
  have h : Laws.Encoding.Statement (aluReg op r) := by
    cases op <;> cases r <;> exact fun _ _ _ => ⟨_, _, _, _, rfl, rfl, rfl⟩
  cases op <;> cases r <;> exact encodes_of_encode_eq h rfl rfl

theorem encodes_aluMem (op : AluOp) : encodes (aluMem op) [opc (0x86 + 8 * aluCode op)] := by
  cases op
  case add => exact encodes_encode Laws.Encoding.add_A_atHL rfl
  case adc => exact encodes_encode Laws.Encoding.adc_A_atHL rfl
  case sub => exact encodes_encode Laws.Encoding.sub_atHL rfl
  case sbc => exact encodes_encode Laws.Encoding.sbc_A_atHL rfl
  case and => exact encodes_encode Laws.Encoding.and_atHL rfl
  case xor => exact encodes_encode Laws.Encoding.xor_atHL rfl
  case or => exact encodes_encode Laws.Encoding.or_atHL rfl
  case cp => exact encodes_encode Laws.Encoding.cp_atHL rfl

theorem encodes_aluImm (op : AluOp) (n : Byte) : encodes (aluImm op n) [opc (0xC6 + 8 * aluCode op), n] := by
  cases op
  case add => exact encodes_encode (Laws.Encoding.add_A_n n) rfl
  case adc => exact encodes_encode (Laws.Encoding.adc_A_n n) rfl
  case sub => exact encodes_encode (Laws.Encoding.sub_n n) rfl
  case sbc => exact encodes_encode (Laws.Encoding.sbc_A_n n) rfl
  case and => exact encodes_encode (Laws.Encoding.and_n n) rfl
  case xor => exact encodes_encode (Laws.Encoding.xor_n n) rfl
  case or => exact encodes_encode (Laws.Encoding.or_n n) rfl
  case cp => exact encodes_encode (Laws.Encoding.cp_n n) rfl

theorem encodes_incReg8 (r : Reg8) : encodes (incReg8 r) [opc (0x04 + 8 * code r)] := by
  cases r
  case b => exact encodes_encode Laws.Encoding.inc_B rfl
  case c => exact encodes_encode Laws.Encoding.inc_C rfl
  case d => exact encodes_encode Laws.Encoding.inc_D rfl
  case e => exact encodes_encode Laws.Encoding.inc_E rfl
  case h => exact encodes_encode Laws.Encoding.inc_H rfl
  case l => exact encodes_encode Laws.Encoding.inc_L rfl
  case a => exact encodes_encode Laws.Encoding.inc_A rfl

theorem encodes_decReg8 (r : Reg8) : encodes (decReg8 r) [opc (0x05 + 8 * code r)] := by
  cases r
  case b => exact encodes_encode Laws.Encoding.dec_B rfl
  case c => exact encodes_encode Laws.Encoding.dec_C rfl
  case d => exact encodes_encode Laws.Encoding.dec_D rfl
  case e => exact encodes_encode Laws.Encoding.dec_E rfl
  case h => exact encodes_encode Laws.Encoding.dec_H rfl
  case l => exact encodes_encode Laws.Encoding.dec_L rfl
  case a => exact encodes_encode Laws.Encoding.dec_A rfl

/-! ### Effects -/

theorem exec_aluReg (op : AluOp) (s : State) (r : Reg8) :
    exec (aluReg op r) s = .next ((aluModel op s (s.reg r)).spend (.base (opc (0x80 + 8 * aluCode op + code r))) 4) := by
  cases op <;> cases r <;> rfl

theorem exec_aluMem (op : AluOp) (s : State) :
    exec (aluMem op) s = .next ((aluModel op s s.readHL).spend (.base (opc (0x86 + 8 * aluCode op))) 8) := by
  cases op <;> rfl

theorem exec_aluImm (op : AluOp) (s : State) (n : Byte) :
    exec (aluImm op n) s = .next ((aluModel op s n).spend (.base (opc (0xC6 + 8 * aluCode op))) 8) := by
  cases op <;> rfl

/-- R275. -/
theorem exec_incReg8 (s : State) (r : Reg8) :
    exec (incReg8 r) s = .next ((s.incReg r).spend (.base (opc (0x04 + 8 * code r))) 4) := by
  cases r <;> rfl

/-- R277. -/
theorem exec_decReg8 (s : State) (r : Reg8) :
    exec (decReg8 r) s = .next ((s.decReg r).spend (.base (opc (0x05 + 8 * code r))) 4) := by
  cases r <;> rfl

/-- The three rows of an operation on A, for r, (HL) and n, do what its rule says (R251 to R274). -/
theorem aluRows (op : AluOp) (s : State) (r : Reg8) (n : Byte) :
    (encodes (aluReg op r) [opc (0x80 + 8 * aluCode op + code r)] ∧
      exec (aluReg op r) s =
        .next (charge (.base (opc (0x80 + 8 * aluCode op + code r))) 4 (aluRule op s (getReg s r)))) ∧
    (encodes (aluMem op) [opc (0x86 + 8 * aluCode op)] ∧
      exec (aluMem op) s = .next (charge (.base (opc (0x86 + 8 * aluCode op))) 8 (aluRule op s (s.readByte (hlOf s))))) ∧
    (encodes (aluImm op n) [opc (0xC6 + 8 * aluCode op), n] ∧
      exec (aluImm op n) s = .next (charge (.base (opc (0xC6 + 8 * aluCode op))) 8 (aluRule op s n))) := by
  simp only [charge_eq_spend, getReg_eq_reg, hlOf_eq_hl, aluRule_eq_aluModel]
  exact ⟨⟨encodes_aluReg op r, exec_aluReg op s r⟩, ⟨encodes_aluMem op, exec_aluMem op s⟩,
    ⟨encodes_aluImm op n, exec_aluImm op s n⟩⟩

end Sys2Proof.Statements
end

section
/-! The obligations of 42_alu8.md. -/

namespace Sys2Proof.Proofs

open Sys2Proof.Machine Sys2Proof.Statements

/-- Settles O14: the rows of ADD and of ADC. -/
theorem addAndAdc : Obligations.AddAndAdc := by
  intro s r n
  obtain ⟨addReg, addMem, addImm⟩ := aluRows .add s r n
  obtain ⟨adcReg, adcMem, adcImm⟩ := aluRows .adc s r n
  exact ⟨addReg, addMem, addImm, adcReg, adcMem, adcImm⟩

/-- Settles O15: the rows of SUB and of SBC. -/
theorem subAndSbc : Obligations.SubAndSbc := by
  intro s r n
  obtain ⟨subReg, subMem, subImm⟩ := aluRows .sub s r n
  obtain ⟨sbcReg, sbcMem, sbcImm⟩ := aluRows .sbc s r n
  exact ⟨subReg, subMem, subImm, sbcReg, sbcMem, sbcImm⟩

/-- Settles O17: the rows of CP. -/
theorem compare : Obligations.Compare := fun s r n => aluRows .cp s r n

/-- Settles O18: with the flags and the registers written as the model writes them, the rows are their arms of `exec`. -/
theorem incAndDec : Obligations.IncAndDec := by
  intro s r
  simp only [charge_eq_spend, getReg_eq_reg, putReg_eq_setReg, hlOf_eq_hl, incremented_eq_incFlags,
    decremented_eq_decFlags]
  refine ⟨⟨encodes_incReg8 r, exec_incReg8 s r⟩, ⟨encodes_decReg8 r, exec_decReg8 s r⟩, ⟨?_, rfl⟩, ⟨?_, rfl⟩⟩
  · exact encodes_encode Laws.Encoding.inc_atHL rfl
  · exact encodes_encode Laws.Encoding.dec_atHL rfl

/-- Settles O19: the rule's integer arithmetic is the model's on bytes. -/
theorem decimalAdjust : Obligations.DecimalAdjust := by
  intro s
  rw [decimalAdjusted_eq_daa, charge_eq_spend]
  exact ⟨encodes_encode Laws.Encoding.daa rfl, rfl⟩

/-- Settles O20: with the complement and the flags written as the model writes them, the rows are their arms of `exec`. -/
theorem complementAndCarry : Obligations.ComplementAndCarry := by
  intro s
  simp only [charge_eq_spend, ofNat_255_sub_eq_not, fByte_eq_packFlags]
  refine ⟨⟨?_, rfl⟩, ⟨?_, rfl⟩, ⟨?_, rfl⟩⟩
  · exact encodes_encode Laws.Encoding.cpl rfl
  · exact encodes_encode Laws.Encoding.scf rfl
  · exact encodes_encode Laws.Encoding.ccf rfl

/-- Settles O16: the rows of AND, XOR and OR. -/
theorem andXorOr : Obligations.AndXorOr := by
  intro s r n
  obtain ⟨andReg, andMem, andImm⟩ := aluRows .and s r n
  obtain ⟨xorReg, xorMem, xorImm⟩ := aluRows .xor s r n
  exact ⟨andReg, andMem, andImm, xorReg, xorMem, xorImm, aluRows .or s r n⟩

end Sys2Proof.Proofs
end

/-! ## Proofs about 16-bit arithmetic (43_alu16.md) -/

section
/-! ADD HL,rr, INC rr and DEC rr by their pair. -/

namespace Sys2Proof.Statements

open Sys2Proof.Machine

theorem getPair_eq_pair (s : State) (p : Pair) : getPair s p = s.pair p := by
  cases p
  case sp => rfl
  all_goals exact word_eq_mkWord _ _

/-! ### Encodings -/

theorem encodes_addHLPair (p : Pair) : encodes (addHLPair p) [opc (0x09 + 16 * pairCode p)] := by
  cases p
  case bc => exact encodes_encode Laws.Encoding.add_HL_BC rfl
  case de => exact encodes_encode Laws.Encoding.add_HL_DE rfl
  case hl => exact encodes_encode Laws.Encoding.add_HL_HL rfl
  case sp => exact encodes_encode Laws.Encoding.add_HL_SP rfl

theorem encodes_incPair (p : Pair) : encodes (incPair p) [opc (0x03 + 16 * pairCode p)] := by
  cases p
  case bc => exact encodes_encode Laws.Encoding.inc_BC rfl
  case de => exact encodes_encode Laws.Encoding.inc_DE rfl
  case hl => exact encodes_encode Laws.Encoding.inc_HL rfl
  case sp => exact encodes_encode Laws.Encoding.inc_SP rfl

theorem encodes_decPair (p : Pair) : encodes (decPair p) [opc (0x0B + 16 * pairCode p)] := by
  cases p
  case bc => exact encodes_encode Laws.Encoding.dec_BC rfl
  case de => exact encodes_encode Laws.Encoding.dec_DE rfl
  case hl => exact encodes_encode Laws.Encoding.dec_HL rfl
  case sp => exact encodes_encode Laws.Encoding.dec_SP rfl

/-! ### Effects -/

/-- R301. -/
theorem exec_addHLPair (s : State) (p : Pair) :
    exec (addHLPair p) s = .next ((s.addHL (s.pair p)).spend (.base (opc (0x09 + 16 * pairCode p))) 8) := by
  cases p <;> rfl

/-- R302. -/
theorem exec_incPair (s : State) (p : Pair) :
    exec (incPair p) s = .next ((s.setPair p (s.pair p + 1)).spend (.base (opc (0x03 + 16 * pairCode p))) 8) := by
  cases p <;> rfl

/-- R303. -/
theorem exec_decPair (s : State) (p : Pair) :
    exec (decPair p) s = .next ((s.setPair p (s.pair p - 1)).spend (.base (opc (0x0B + 16 * pairCode p))) 8) := by
  cases p <;> rfl

end Sys2Proof.Statements
end

section
/-! The obligation of 43_alu16.md. -/

namespace Sys2Proof.Proofs

open Sys2Proof.Machine Sys2Proof.Statements

/-- Settles O21: with the pairs, the sum and the flags written as the model writes them, the rows are their arms of `exec`. -/
theorem arithmetic16 : Obligations.Arithmetic16 := by
  intro s p
  simp only [charge_eq_spend, getPair_eq_pair, putPair_eq_setPair, hlOf_eq_hl, ← BitVec.add_def, fByte_eq_packFlags]
  exact ⟨⟨encodes_addHLPair p, exec_addHLPair s p⟩, ⟨encodes_incPair p, exec_incPair s p⟩,
    ⟨encodes_decPair p, exec_decPair s p⟩⟩

end Sys2Proof.Proofs
end

/-! ## Proofs about rotates, shifts and SWAP (44_rotate_shift.md) -/

section
/-! The results and flags of the statements, in integer arithmetic, are the model's shifts and ORs of bytes. -/

namespace Sys2Proof.Statements

open Sys2Proof.Machine

/-! ### Bits, shifts and ORs of bytes -/

theorem getBit_eq_decide (v : Byte) (i : Nat) : getBit v i = decide (v.toNat / 2 ^ i % 2 = 1) :=
  (BitVec.testBit_toNat v).symm.trans Nat.testBit_eq_decide_div_mod_eq

theorem getBit_zero_eq_decide (v : Byte) : getBit v 0 = decide (v.toNat % 2 = 1) := by
  rw [getBit_eq_decide, pow_zero, Nat.div_one]

theorem getBit_seven_eq_decide (v : Byte) : getBit v 7 = decide (v.toNat / 128 = 1) := by
  have hlt := v.isLt
  rw [getBit_eq_decide, decide_eq_decide]
  omega

/-- A left shift moves the bits that stay in the byte. -/
theorem toNat_shiftLeft_byte (v : Byte) {k : Nat} (hk : k ≤ 8) : (v <<< k).toNat = 2 ^ k * (v.toNat % 2 ^ (8 - k)) := by
  rw [BitVec.toNat_shiftLeft, Nat.shiftLeft_eq, Nat.mul_comm, ← Nat.mul_mod_mul_left, ← pow_add, Nat.add_sub_cancel' hk]

theorem toNat_shiftRight_byte (v : Byte) (k : Nat) : (v >>> k).toNat = v.toNat / 2 ^ k :=
  (BitVec.toNat_ushiftRight v k).trans (Nat.shiftRight_eq_div_pow _ _)

theorem toNat_carryByte (c : Bool) : (carryByte c).toNat = c.toNat := by cases c <;> rfl

/-- The sign bit that SRA keeps (R335). -/
theorem toNat_and_0x80 (v : Byte) : (v &&& 0x80).toNat = 2 ^ 7 * (v.toNat / 128) := by
  revert v; decide

/-- Bits above `k` and bits below it share none, so their OR is their sum. -/
theorem ofNat_add_eq_or {high low : Byte} {k m : Nat} (hhigh : high.toNat = 2 ^ k * m) (hlow : low.toNat < 2 ^ k) :
    BitVec.ofNat 8 (high.toNat + low.toNat) = high ||| low := by
  have hor : (high ||| low).toNat = high.toNat + low.toNat := by
    rw [BitVec.toNat_or, hhigh, Nat.two_pow_add_eq_or_of_lt hlow]
  rw [← hor, BitVec.ofNat_toNat, BitVec.setWidth_eq]

/-! ### The eight operations -/

/-- A shift to the left by one, with what comes in at bit 0 (R325, R329). -/
theorem ofNat_leftResult (v : Byte) {low : Byte} (hlow : low.toNat < 2) :
    BitVec.ofNat 8 (2 * v.toNat % 256 + low.toNat) = (v <<< 1) ||| low := by
  have hhigh := toNat_shiftLeft_byte v (show 1 ≤ 8 by decide)
  rw [← ofNat_add_eq_or hhigh hlow, hhigh]
  congr 1
  omega

/-- A shift to the right by one, with what comes in at bit 7 (R327, R331, R335). -/
theorem ofNat_rightResult (v : Byte) {high : Byte} {m : Nat} (hhigh : high.toNat = 2 ^ 7 * m) :
    BitVec.ofNat 8 (v.toNat / 2 + 128 * m) = (v >>> 1) ||| high := by
  have hlow : (v >>> 1).toNat = v.toNat / 2 := toNat_shiftRight_byte v 1
  have hlt := v.isLt
  rw [BitVec.or_comm, ← ofNat_add_eq_or hhigh (by omega), hhigh, hlow, Nat.add_comm]
  rfl

theorem shifted_fst_eq_shiftResult (op : ShiftOp) (v : Byte) (c : Bool) : (shifted op v c).1 = shiftResult op v c := by
  cases op
  case rlc =>
    have hlow : (v >>> 7).toNat = v.toNat / 128 := toNat_shiftRight_byte v 7
    have hlt := v.isLt
    rw [shiftResult, ← ofNat_leftResult v (by omega), hlow]
    rfl
  case rrc => exact ofNat_rightResult v (toNat_shiftLeft_byte v (by decide))
  case rl =>
    have hle := c.toNat_le
    rw [shiftResult, ← ofNat_leftResult v (by rw [toNat_carryByte]; omega), toNat_carryByte]
    rfl
  case rr =>
    have hhigh : (carryByte c <<< 7).toNat = 2 ^ 7 * c.toNat := by cases c <;> rfl
    exact ofNat_rightResult v hhigh
  case sla => exact (ofNat_leftResult v (low := 0) (by decide)).trans BitVec.or_zero
  case sra => exact ofNat_rightResult v (toNat_and_0x80 v)
  case swap =>
    have hhigh : (v <<< 4).toNat = 2 ^ 4 * (v.toNat % 16) := toNat_shiftLeft_byte v (by decide)
    have hlow : (v >>> 4).toNat = v.toNat / 16 := toNat_shiftRight_byte v 4
    have hlt := v.isLt
    rw [shiftResult, ← ofNat_add_eq_or hhigh (by omega), hhigh, hlow]
    rfl
  case srl => exact (ofNat_rightResult v (high := 0) (m := 0) rfl).trans BitVec.or_zero

theorem shifted_snd_eq_shiftOut (op : ShiftOp) (v : Byte) (c : Bool) : (shifted op v c).2 = shiftOut op v := by
  cases op
  case swap => rfl
  case rlc | rl | sla => exact (getBit_seven_eq_decide v).symm
  case rrc | rr | sra | srl => exact (getBit_zero_eq_decide v).symm

/-- `SetShiftFlags` (R320). -/
theorem shiftFlagged_eq_shiftFlags (s : State) (op : ShiftOp) (v : Byte) :
    shiftFlagged s (shifted op v (cOf s)) = s.shiftFlags op v := by
  simp only [shiftFlagged, shifted_fst_eq_shiftResult, shifted_snd_eq_shiftOut, toNat_eq_zero_iff, fByte_eq_packFlags]
  rfl

/-- The accumulator rotates, for both values of ACC_ROTATE_Z (R320 to R324). -/
theorem accRotated_eq_rotateA (s : State) (op : ShiftOp) : accRotated s op = s.rotateA op := by
  simp only [accRotated, shifted_fst_eq_shiftResult, shifted_snd_eq_shiftOut, fByte_eq_packFlags]
  rfl

/-! ### Encodings and effects of the CB rows -/

theorem encodes_shiftReg8 (op : ShiftOp) (r : Reg8) :
    encodes (shiftReg8 op r) [0xCB, opc (8 * shiftCode op + code r)] := by
  have h : Laws.Encoding.Statement (shiftReg8 op r) := by
    cases op <;> cases r <;> exact fun _ _ _ => ⟨_, _, _, _, rfl, rfl, rfl⟩
  cases op <;> cases r <;> exact encodes_of_encode_eq h rfl rfl

theorem encodes_shiftMem (op : ShiftOp) : encodes (shiftMem op) [0xCB, opc (8 * shiftCode op + 6)] := by
  cases op
  case rlc => exact encodes_encode Laws.Encoding.rlc_atHL rfl
  case rrc => exact encodes_encode Laws.Encoding.rrc_atHL rfl
  case rl => exact encodes_encode Laws.Encoding.rl_atHL rfl
  case rr => exact encodes_encode Laws.Encoding.rr_atHL rfl
  case sla => exact encodes_encode Laws.Encoding.sla_atHL rfl
  case sra => exact encodes_encode Laws.Encoding.sra_atHL rfl
  case swap => exact encodes_encode Laws.Encoding.swap_atHL rfl
  case srl => exact encodes_encode Laws.Encoding.srl_atHL rfl

theorem exec_shiftReg8 (s : State) (op : ShiftOp) (r : Reg8) :
    exec (shiftReg8 op r) s = .next ((s.shiftReg op r).spend (.cb (opc (8 * shiftCode op + code r))) 8) := by
  cases op <;> cases r <;> rfl

theorem exec_shiftMem (s : State) (op : ShiftOp) :
    exec (shiftMem op) s = .next ((s.shiftHLMem op).spend (.cb (opc (8 * shiftCode op + 6))) 16) := by
  cases op <;> rfl

end Sys2Proof.Statements
end

section
/-! The obligations of 44_rotate_shift.md. -/

namespace Sys2Proof.Proofs

open Sys2Proof.Machine Sys2Proof.Statements

/-- Settles O22: with the rotate written as the model writes it, the rows are their arms of `exec`. -/
theorem accumulatorRotates : Obligations.AccumulatorRotates := by
  intro s
  simp only [charge_eq_spend, accRotated_eq_rotateA]
  refine ⟨⟨?_, rfl⟩, ⟨?_, rfl⟩, ⟨?_, rfl⟩, ⟨?_, rfl⟩⟩
  · exact encodes_encode Laws.Encoding.rlca rfl
  · exact encodes_encode Laws.Encoding.rrca rfl
  · exact encodes_encode Laws.Encoding.rla rfl
  · exact encodes_encode Laws.Encoding.rra rfl

/-- Settles O23: the rows by their operation and register, with the result and the flags of the model's shift. -/
theorem cbShiftsOfRegisters : Obligations.CbShiftsOfRegisters := by
  intro s op r
  rw [charge_eq_spend, shiftFlagged_eq_shiftFlags, shifted_fst_eq_shiftResult, putReg_eq_setReg, getReg_eq_reg]
  exact ⟨encodes_shiftReg8 op r, exec_shiftReg8 s op r⟩

/-- Settles O24: as for the registers, on the byte read at HL, with the bus write back to HL. -/
theorem cbShiftsOfMemory : Obligations.CbShiftsOfMemory := by
  intro s op
  rw [charge_eq_spend, shiftFlagged_eq_shiftFlags, shifted_fst_eq_shiftResult, hlOf_eq_hl]
  exact ⟨encodes_shiftMem op, exec_shiftMem s op⟩

end Sys2Proof.Proofs
end

/-! ## Proofs about the single-bit operations (45_bit.md) -/

section
/-! The bit arithmetic of the statements is the model's on bytes. -/

namespace Sys2Proof.Statements

open Sys2Proof.Machine

/-! ### One bit of a byte (R350) -/

/-- A byte is what a mask leaves of it plus what the mask takes out: the two parts share no bit. -/
theorem toNat_eq_andNot_add_and (v m : Byte) : v.toNat = (v &&& ~~~m).toNat + (v &&& m).toNat := by
  have hdisjoint : (v &&& ~~~m) &&& (v &&& m) = 0#8 := by
    ext i hi
    cases h : m[i] <;> simp [h]
  have hunion : (v &&& ~~~m) ||| (v &&& m) = v := by
    ext i hi
    cases h : m[i] <;> simp [h]
  rw [← BitVec.toNat_add_of_and_eq_zero hdisjoint, BitVec.add_eq_or_of_and_eq_zero _ _ hdisjoint, hunion]

/-- With a mask's bits set, a byte is what the mask leaves of it plus the mask. -/
theorem toNat_or_eq_andNot_add (v m : Byte) : (v ||| m).toNat = (v &&& ~~~m).toNat + m.toNat := by
  have hleft : (v ||| m) &&& ~~~m = v &&& ~~~m := by
    ext i hi
    cases h : m[i] <;> simp [h]
  have htaken : (v ||| m) &&& m = m := by
    ext i hi
    cases h : m[i] <;> simp [h]
  rw [toNat_eq_andNot_add_and (v ||| m) m, hleft, htaken]

theorem toNat_bitMask (b : Fin 8) : (1#8 <<< b.val).toNat = 2 ^ b.val := by
  rw [← BitVec.twoPow_eq, BitVec.toNat_twoPow_of_lt b.isLt]

theorem toNat_and_bitMask (v : Byte) (b : Fin 8) :
    (v &&& 1#8 <<< b.val).toNat = 2 ^ b.val * (v.toNat / 2 ^ b.val % 2) := by
  rw [BitVec.toNat_and, toNat_bitMask, Nat.and_two_pow, Nat.toNat_testBit, Nat.mul_comm]

/-- R353. -/
theorem bitCleared_eq_clearBit (v : Byte) (b : Fin 8) : bitCleared v b = clearBit v b := by
  have hsub : v.toNat - 2 ^ b.val * (v.toNat / 2 ^ b.val % 2) = (clearBit v b).toNat := by
    rw [← toNat_and_bitMask]
    exact Nat.sub_eq_of_eq_add (toNat_eq_andNot_add_and v _)
  rw [bitCleared, hsub, BitVec.ofNat_toNat, BitVec.setWidth_eq]

/-- R355. -/
theorem bitSet_eq_setBit (v : Byte) (b : Fin 8) : bitSet v b = setBit v b := by
  have hadd : v.toNat + 2 ^ b.val * (1 - v.toNat / 2 ^ b.val % 2) = (setBit v b).toNat := by
    have hsplit := toNat_eq_andNot_add_and v (1#8 <<< b.val)
    rw [setBit, toNat_or_eq_andNot_add, toNat_bitMask]
    rw [toNat_and_bitMask] at hsplit
    rcases Nat.mod_two_eq_zero_or_one (v.toNat / 2 ^ b.val) with hbit | hbit <;> rw [hbit] at hsplit ⊢ <;> omega
  rw [bitSet, hadd, BitVec.ofNat_toNat, BitVec.setWidth_eq]

/-- R351: Z is the complement of the bit. -/
theorem bitTested_eq_bitTest (s : State) (v : Byte) (b : Nat) : bitTested s v b = s.bitTest b v := by
  have hz : decide (v.toNat / 2 ^ b % 2 = 0) = !getBit v b := by
    rw [getBit_eq_decide, ← decide_not, decide_eq_decide]
    exact Nat.mod_two_ne_one.symm
  simp only [bitTested, hz, fByte_eq_packFlags]
  rfl

end Sys2Proof.Statements
end

section
/-! The rows of BIT, RES and SET, by family. -/

namespace Sys2Proof.Statements

open Sys2Proof.Machine

/-- The three single-bit operations (R350). -/
inductive BitOp
  | bit | res | set

/-- The second byte of bit 0 of register B: the group field x over zeros (R160). -/
def bitOpBase : BitOp → Nat
  | .bit => 0x40 | .res => 0x80 | .set => 0xC0

/-- A single-bit operation on a register (R351, R353, R355). -/
def bitOpReg : BitOp → Fin 8 → Reg8 → Instr
  | .bit => bitReg8 | .res => resReg8 | .set => setReg8

/-- A single-bit operation on the byte at HL (R352, R354, R356). -/
def bitOpMem : BitOp → Fin 8 → Instr
  | .bit => bitMem | .res => resMem | .set => setMem

/-- The cost of the form on the byte at HL: BIT writes nothing back (R352, R354, R356). -/
def bitOpMemCycles : BitOp → Nat
  | .bit => 12 | .res => 16 | .set => 16

/-- What an operation on bit `b` of an operand does by its rule; the operand's value is `v`, and `put` writes it. -/
def bitOpRule (op : BitOp) (s : State) (b : Fin 8) (v : Byte) (put : Byte → State) : State :=
  match op with
  | .bit => bitTested s v b
  | .res => put (bitCleared v b)
  | .set => put (bitSet v b)

/-- The model's operation for each of the three. -/
def bitOpModel (op : BitOp) (s : State) (b : Fin 8) (v : Byte) (put : Byte → State) : State :=
  match op with
  | .bit => s.bitTest b v
  | .res => put (clearBit v b)
  | .set => put (setBit v b)

theorem bitOpRule_eq_bitOpModel (op : BitOp) (s : State) (b : Fin 8) (v : Byte) (put : Byte → State) :
    bitOpRule op s b v put = bitOpModel op s b v put := by
  cases op
  case bit => exact bitTested_eq_bitTest s v b
  case res => exact congrArg put (bitCleared_eq_clearBit v b)
  case set => exact congrArg put (bitSet_eq_setBit v b)

/-! ### Encodings -/

/-- The cell of the CB map at the second byte is what the two bytes encode (R169). -/
theorem encodes_cbCell (op2 : Byte) : encodes (mapCell cbMap op2) [0xCB, op2] := fun _ => rfl

theorem encodes_of_cbCell {i : Instr} {op2 : Byte} (h : mapCell cbMap op2 = i) : encodes i [0xCB, op2] :=
  h ▸ encodes_cbCell op2

theorem encodes_bitOpReg (op : BitOp) (b : Fin 8) (r : Reg8) :
    encodes (bitOpReg op b r) [0xCB, opc (bitOpBase op + 8 * b + code r)] := by
  apply encodes_of_cbCell
  cases op <;> fin_cases b <;> cases r <;> rfl

theorem encodes_bitOpMem (op : BitOp) (b : Fin 8) : encodes (bitOpMem op b) [0xCB, opc (bitOpBase op + 6 + 8 * b)] := by
  apply encodes_of_cbCell
  cases op <;> fin_cases b <;> rfl

/-! ### Effects -/

theorem exec_bitOpReg (op : BitOp) (s : State) (b : Fin 8) (r : Reg8) :
    exec (bitOpReg op b r) s =
      .next ((bitOpModel op s b (s.reg r) (s.setReg r)).spend (.cb (opc (bitOpBase op + 8 * b + code r))) 8) := by
  cases op <;> fin_cases b <;> cases r <;> rfl

theorem exec_bitOpMem (op : BitOp) (s : State) (b : Fin 8) :
    exec (bitOpMem op b) s =
      .next ((bitOpModel op s b (s.readByte s.hl) (s.writeByte s.hl)).spend (.cb (opc (bitOpBase op + 6 + 8 * b)))
        (bitOpMemCycles op)) := by
  cases op <;> fin_cases b <;> rfl

/-- The two rows of an operation: on a register and on the byte at HL (R351 to R356). -/
theorem bitOpRows (op : BitOp) (s : State) (b : Fin 8) (r : Reg8) :
    (encodes (bitOpReg op b r) [0xCB, opc (bitOpBase op + 8 * b + code r)] ∧
      exec (bitOpReg op b r) s = .next (charge (.cb (opc (bitOpBase op + 8 * b + code r))) 8
        (bitOpRule op s b (getReg s r) (putReg s r)))) ∧
    (encodes (bitOpMem op b) [0xCB, opc (bitOpBase op + 6 + 8 * b)] ∧
      exec (bitOpMem op b) s = .next (charge (.cb (opc (bitOpBase op + 6 + 8 * b))) (bitOpMemCycles op)
        (bitOpRule op s b (s.readByte (hlOf s)) (s.writeByte (hlOf s))))) := by
  have hput : putReg s r = s.setReg r := funext (putReg_eq_setReg s r)
  rw [charge_eq_spend, charge_eq_spend, bitOpRule_eq_bitOpModel, bitOpRule_eq_bitOpModel, hput, getReg_eq_reg, hlOf_eq_hl]
  exact ⟨⟨encodes_bitOpReg op b r, exec_bitOpReg op s b r⟩, encodes_bitOpMem op b, exec_bitOpMem op s b⟩

end Sys2Proof.Statements
end

section
/-! The obligations of 45_bit.md. -/

namespace Sys2Proof.Proofs

open Sys2Proof.Machine Sys2Proof.Statements

/-- Settles O26: the rows of BIT. -/
theorem bitTests : Obligations.BitTests := fun s b r => bitOpRows .bit s b r

/-- Settles O27: the rows of RES and of SET. -/
theorem resAndSet : Obligations.ResAndSet := by
  intro s b r
  obtain ⟨hresReg, hresMem⟩ := bitOpRows .res s b r
  obtain ⟨hsetReg, hsetMem⟩ := bitOpRows .set s b r
  exact ⟨hresReg, hresMem, hsetReg, hsetMem⟩

end Sys2Proof.Proofs
end

/-! ## Proofs about jumps, calls and returns (46_control.md) -/

section
/-! The model's transfers of control in the statements' vocabulary, one equation each; the rows of a family by their condition or
their target. -/

namespace Sys2Proof.Statements

open Sys2Proof.Machine

/-! ### Transfers of control -/

/-- R370. -/
theorem condHolds_eq_cond (s : State) (cc : Cond) : condHolds s cc = s.cond cc := by cases cc <;> rfl

theorem callTo_eq (s : State) (target : Word) : s.callTo target = { pushed s s.pc with pc := target } := by
  rw [pushed_eq_push]
  rfl

theorem returnFromCall_eq (s : State) : s.returnFromCall = { s with pc := popWord s, sp := s.sp + 2 } := by
  rw [popWord_eq_popValue]
  rfl

theorem returnFromInterrupt_eq (s : State) :
    s.returnFromInterrupt = { s with pc := popWord s, sp := s.sp + 2, ime := true } := by
  rw [popWord_eq_popValue]
  rfl

theorem jumpIf_eq (s : State) (cc : Cond) (target : Word) (op : Byte) (nt t : Nat) :
    s.jumpIf cc target op nt t =
      if condHolds s cc then charge (.taken op) t { s with pc := target } else charge (.base op) nt s := by
  rw [condHolds_eq_cond]
  rfl

theorem callIf_eq (s : State) (cc : Cond) (target : Word) (op : Byte) (nt t : Nat) :
    s.callIf cc target op nt t =
      if condHolds s cc then charge (.taken op) t { pushed s s.pc with pc := target } else charge (.base op) nt s := by
  rw [condHolds_eq_cond, ← callTo_eq]
  rfl

theorem returnIf_eq (s : State) (cc : Cond) (op : Byte) (nt t : Nat) :
    s.returnIf cc op nt t =
      if condHolds s cc then charge (.taken op) t { s with pc := popWord s, sp := s.sp + 2 } else charge (.base op) nt s := by
  rw [condHolds_eq_cond, ← returnFromCall_eq]
  rfl

/-! ### Encodings -/

theorem encodes_jpIf (cc : Cond) (nn : Word) :
    encodes (jpIf cc nn) [opc (0xC2 + 8 * condCode cc), loByte nn, hiByte nn] := by
  cases cc
  case nz => exact encodes_encode (Laws.Encoding.jp_NZ_nn nn) rfl
  case z => exact encodes_encode (Laws.Encoding.jp_Z_nn nn) rfl
  case nc => exact encodes_encode (Laws.Encoding.jp_NC_nn nn) rfl
  case c => exact encodes_encode (Laws.Encoding.jp_C_nn nn) rfl

theorem encodes_jrIf (cc : Cond) (e : Byte) : encodes (jrIf cc e) [opc (0x20 + 8 * condCode cc), e] := by
  cases cc
  case nz => exact encodes_encode (Laws.Encoding.jr_NZ_e e) rfl
  case z => exact encodes_encode (Laws.Encoding.jr_Z_e e) rfl
  case nc => exact encodes_encode (Laws.Encoding.jr_NC_e e) rfl
  case c => exact encodes_encode (Laws.Encoding.jr_C_e e) rfl

theorem encodes_callIf (cc : Cond) (nn : Word) :
    encodes (callIf cc nn) [opc (0xC4 + 8 * condCode cc), loByte nn, hiByte nn] := by
  cases cc
  case nz => exact encodes_encode (Laws.Encoding.call_NZ_nn nn) rfl
  case z => exact encodes_encode (Laws.Encoding.call_Z_nn nn) rfl
  case nc => exact encodes_encode (Laws.Encoding.call_NC_nn nn) rfl
  case c => exact encodes_encode (Laws.Encoding.call_C_nn nn) rfl

theorem encodes_retIf (cc : Cond) : encodes (retIf cc) [opc (0xC0 + 8 * condCode cc)] := by
  cases cc
  case nz => exact encodes_encode Laws.Encoding.ret_NZ rfl
  case z => exact encodes_encode Laws.Encoding.ret_Z rfl
  case nc => exact encodes_encode Laws.Encoding.ret_NC rfl
  case c => exact encodes_encode Laws.Encoding.ret_C rfl

theorem encodes_rst (t : Fin 8) : encodes (rst t) [opc (0xC7 + 8 * t)] := by
  fin_cases t
  · exact encodes_encode Laws.Encoding.rst_00H rfl
  · exact encodes_encode Laws.Encoding.rst_08H rfl
  · exact encodes_encode Laws.Encoding.rst_10H rfl
  · exact encodes_encode Laws.Encoding.rst_18H rfl
  · exact encodes_encode Laws.Encoding.rst_20H rfl
  · exact encodes_encode Laws.Encoding.rst_28H rfl
  · exact encodes_encode Laws.Encoding.rst_30H rfl
  · exact encodes_encode Laws.Encoding.rst_38H rfl

/-! ### Effects -/

/-- R372. -/
theorem exec_jpIf (s : State) (cc : Cond) (nn : Word) :
    exec (jpIf cc nn) s = .next (s.jumpIf cc nn (opc (0xC2 + 8 * condCode cc)) 12 16) := by
  cases cc <;> rfl

/-- R375. -/
theorem exec_jrIf (s : State) (cc : Cond) (e : Byte) :
    exec (jrIf cc e) s = .next (s.jumpIf cc (s.pc + sext16 e) (opc (0x20 + 8 * condCode cc)) 8 12) := by
  cases cc <;> rfl

/-- R377. -/
theorem exec_callIf (s : State) (cc : Cond) (nn : Word) :
    exec (callIf cc nn) s = .next (s.callIf cc nn (opc (0xC4 + 8 * condCode cc)) 12 24) := by
  cases cc <;> rfl

/-- R379. -/
theorem exec_retIf (s : State) (cc : Cond) :
    exec (retIf cc) s = .next (s.returnIf cc (opc (0xC0 + 8 * condCode cc)) 8 20) := by
  cases cc <;> rfl

/-- R381. -/
theorem exec_rst (s : State) (t : Fin 8) :
    exec (rst t) s = .next ((s.callTo (BitVec.ofNat 16 (8 * t))).spend (.base (opc (0xC7 + 8 * t))) 16) := by
  fin_cases t <;> rfl

end Sys2Proof.Statements
end

section
/-! The obligations of 46_control.md. -/

namespace Sys2Proof.Proofs

open Sys2Proof.Machine Sys2Proof.Statements

/-- Settles O28: with the targets written as the model writes them, the unconditional rows are their arms of `exec`, and the
conditional ones the model's jump under a condition. -/
theorem jumps : Obligations.Jumps := by
  intro s cc e nn
  simp only [hlOf_eq_hl, displaced_eq_add_sext16, loOf_eq_loByte, hiOf_eq_hiByte, ← jumpIf_eq]
  refine ⟨⟨?_, rfl⟩, ⟨?_, rfl⟩, ⟨?_, rfl⟩, ⟨encodes_jpIf cc nn, exec_jpIf s cc nn⟩, encodes_jrIf cc e, exec_jrIf s cc e⟩
  · exact encodes_encode (Laws.Encoding.jp_nn nn) rfl
  · exact encodes_encode Laws.Encoding.jp_HL rfl
  · exact encodes_encode (Laws.Encoding.jr_e e) rfl

/-- Settles O29: the statement's push of PC and new PC are the model's call, which CALL, CALL cc when taken and RST all make. -/
theorem callsAndRestarts : Obligations.CallsAndRestarts := by
  intro s cc nn t
  rw [loOf_eq_loByte, hiOf_eq_hiByte, ← callIf_eq, ← callTo_eq, ← callTo_eq]
  refine ⟨⟨?_, rfl⟩, ⟨encodes_callIf cc nn, exec_callIf s cc nn⟩, encodes_rst t, exec_rst s t⟩
  exact encodes_encode (Laws.Encoding.call_nn nn) rfl

/-- Settles O30: the statement's new PC and SP are the model's return; RETI's is its return from an interrupt. -/
theorem returns : Obligations.Returns := by
  intro s cc
  rw [← returnIf_eq, ← returnFromCall_eq, ← returnFromInterrupt_eq]
  refine ⟨⟨?_, rfl⟩, ⟨encodes_retIf cc, exec_retIf s cc⟩, ?_, rfl⟩
  · exact encodes_encode Laws.Encoding.ret rfl
  · exact encodes_encode Laws.Encoding.reti rfl

end Sys2Proof.Proofs
end

/-! ## Proofs about the timer, the LCD controller and the buttons (60_exceptions.md) -/

section
/-! What an interrupt request and the parts of TimerUpdate write. -/

namespace Sys2Proof.Machine

/-! ### Interrupt requests (R511) -/

theorem OnlyMem.ite {A : Nat → Prop} {p : Prop} [Decidable p] {s t u : State} (h : OnlyMem A s t) (k : OnlyMem A s u) :
    OnlyMem A s (if p then t else u) := by
  split <;> assumption

theorem onlyMem_requestInterrupt {A : Nat → Prop} (s : State) (k : Nat) (h : A 0xFF0F) :
    OnlyMem A s (s.requestInterrupt k) :=
  onlyMem_pokeMem s _ _ h

theorem State.memAt_requestInterrupt_other (s : State) (k : Nat) {a : Nat} (h : a ≠ 0xFF0F) :
    (s.requestInterrupt k).memAt a = s.memAt a := State.memAt_pokeMem_other s _ h

@[simp] theorem State.memAt_requestInterrupt_requests (s : State) (k : Nat) :
    (s.requestInterrupt k).memAt 0xFF0F = s.memAt 0xFF0F ||| irqMask k := State.memAt_pokeMem_same s _ _

/-! ### The timer (R530, R531) -/

/-- The divider's part is one raw write of DIV, and its accumulator (R530). -/
theorem State.timerDivider_eq (s : State) (d : Nat) :
    s.timerDivider d = ({ s with divAcc := (s.divAcc + d) % 256 } : State).pokeMem 0xFF04
      (s.memAt 0xFF04 + BitVec.ofNat 8 ((s.divAcc + d) / 256)) := rfl

theorem State.memAt_timerDivider_other (s : State) (d : Nat) {a : Nat} (h : a ≠ 0xFF04) :
    (s.timerDivider d).memAt a = s.memAt a := State.memAt_pokeMem_other s _ h

theorem State.timaTick_of_overflow {s : State} (h : s.memAt 0xFF05 = 0xFF) :
    s.timaTick = (s.pokeMem 0xFF05 (s.memAt 0xFF06)).requestInterrupt 2 := if_pos h

theorem State.timaTick_of_ne {s : State} (h : s.memAt 0xFF05 ≠ 0xFF) :
    s.timaTick = s.pokeMem 0xFF05 (s.memAt 0xFF05 + 1) := if_neg h

theorem State.memAt_timaTick_of_overflow {s : State} (h : s.memAt 0xFF05 = 0xFF) :
    s.timaTick.memAt 0xFF05 = s.memAt 0xFF06 ∧ s.timaTick.memAt 0xFF0F = s.memAt 0xFF0F ||| 0x04 := by
  rw [State.timaTick_of_overflow h]
  constructor
  · rw [State.memAt_requestInterrupt_other _ _ (by decide), State.memAt_pokeMem_same]
  · rw [State.memAt_requestInterrupt_requests, State.memAt_pokeMem_other _ _ (by decide)]
    rfl

theorem State.memAt_timaTick_of_ne {s : State} (h : s.memAt 0xFF05 ≠ 0xFF) :
    (s.timaTick.memAt 0xFF05).toNat = (s.memAt 0xFF05).toNat + 1 ∧ s.timaTick.memAt 0xFF0F = s.memAt 0xFF0F := by
  rw [State.timaTick_of_ne h]
  constructor
  · rw [State.memAt_pokeMem_same]
    bv_omega
  · rw [State.memAt_pokeMem_other _ _ (by decide)]

/-- Ticks write TIMA and IF. -/
theorem onlyMem_timaTick (s : State) : OnlyMem (fun x => x = 0xFF05 ∨ x = 0xFF0F) s s.timaTick :=
  ((onlyMem_pokeMem s _ _ (.inl rfl)).trans (onlyMem_requestInterrupt _ 2 (.inr rfl))).ite (onlyMem_pokeMem s _ _ (.inl rfl))

theorem onlyMem_timaTicks (s : State) (n : Nat) : OnlyMem (fun x => x = 0xFF05 ∨ x = 0xFF0F) s (s.timaTicks n) := by
  induction n generalizing s with
  | zero => exact OnlyMem.refl _ s
  | succ n ih => exact (onlyMem_timaTick s).trans (ih _)

theorem State.timerCounter_of_disabled {s : State} (d : Nat) (h : getBit (s.memAt 0xFF07) 2 = false) : s.timerCounter d = s := by
  rw [State.timerCounter, h]
  rfl

theorem State.timerCounter_of_enabled {s : State} (d : Nat) (h : getBit (s.memAt 0xFF07) 2 = true) :
    s.timerCounter d =
      { s.timaTicks (ticksDue s.cfg.timerMultiTick (s.timaAcc + d) (timerThreshold (s.memAt 0xFF07))) with
        timaAcc := s.timaAcc + d -
          ticksDue s.cfg.timerMultiTick (s.timaAcc + d) (timerThreshold (s.memAt 0xFF07)) *
            timerThreshold (s.memAt 0xFF07) } := by
  rw [State.timerCounter, h]
  rfl

end Sys2Proof.Machine
end

section
/-! The statements' threshold and ticks are the model's. -/

namespace Sys2Proof.Statements

open Sys2Proof.Machine

theorem threshold_eq_timerThreshold (tac : Byte) : threshold tac = timerThreshold tac := by
  revert tac; decide

/-- After a run of ticks TIMA is the counted value, and IF has the Timer bit if there was an overflow (R531). -/
theorem timaTicks_eq_timaAfter (s : State) (n : Nat) :
    let run := timaAfter (s.memAt 0xFF06).toNat n (s.memAt 0xFF05).toNat
    ((s.timaTicks n).memAt 0xFF05).toNat = run.1 ∧
    (s.timaTicks n).memAt 0xFF0F = s.memAt 0xFF0F ||| (if run.2 then 0x04 else 0x00) := by
  induction n generalizing s with
  | zero => simp [State.timaTicks, timaAfter]
  | succ n ih =>
    obtain ⟨htima, hrequests⟩ := ih s.timaTick
    rw [(onlyMem_timaTick s).bytes 0xFF06 (by decide)] at htima hrequests
    rw [State.timaTicks]
    by_cases hmax : s.memAt 0xFF05 = 0xFF
    · obtain ⟨hreload, hrequest⟩ := State.memAt_timaTick_of_overflow hmax
      have hagain : ∀ (b : Bool) (v : Byte), v ||| 0x04 ||| (if b then 0x04 else 0x00) = v ||| 0x04 := by decide
      rw [hreload] at htima hrequests
      rw [hrequest, hagain] at hrequests
      simp only [timaAfter, hmax]
      exact ⟨htima, hrequests⟩
    · obtain ⟨hcount, hkept⟩ := State.memAt_timaTick_of_ne hmax
      have hnat : (s.memAt 0xFF05).toNat ≠ 0xFF := fun h => hmax (BitVec.eq_of_toNat_eq h)
      rw [hcount] at htima hrequests
      rw [hkept] at hrequests
      simp only [timaAfter, if_neg hnat]
      exact ⟨htima, hrequests⟩

end Sys2Proof.Statements
end

section
/-! The obligations of 60_exceptions.md about the timer and the buttons. -/

namespace Sys2Proof.Proofs

open Sys2Proof.Machine Sys2Proof.Statements

/-- Settles O47: the divider writes DIV only, so the counter sees every other byte as it was; it runs the ticks that are due. -/
theorem timerUpdate : Obligations.TimerUpdate := by
  intro s d
  have hdiv : (s.timerDivider d).memAt 0xFF04 = BitVec.ofNat 8 ((s.memAt 0xFF04).toNat + (s.divAcc + d) / 256) := by
    rw [s.timerDivider_eq, State.memAt_pokeMem_same, BitVec.ofNat_add, BitVec.ofNat_toNat, BitVec.setWidth_eq]
  have hother : ∀ {a}, a ≠ 0xFF04 → (s.timerDivider d).memAt a = s.memAt a := fun h => s.memAt_timerDivider_other d h
  have htac : (s.timerDivider d).memAt 0xFF07 = s.memAt 0xFF07 := hother (by decide)
  cases hbit : ioBit s 0xFF07 2 with
  | false =>
    have hcounter : s.timerUpdate d = s.timerDivider d := State.timerCounter_of_disabled d (htac ▸ hbit)
    simp only [hcounter, Bool.false_eq_true, false_imp_iff, true_imp_iff, true_and]
    exact ⟨rfl, hdiv, ⟨rfl, hother (by decide), hother (by decide)⟩, fun a h _ _ => hother h, rfl⟩
  | true =>
    have hcounter : s.timerUpdate d = _ := State.timerCounter_of_enabled d (htac ▸ hbit)
    have hticks := onlyMem_timaTicks (s.timerDivider d)
    have hrun := timaTicks_eq_timaAfter (s.timerDivider d)
    simp (disch := decide) only [hother] at hcounter hrun
    simp only [hcounter, threshold_eq_timerThreshold, Bool.true_eq_false, false_imp_iff, true_imp_iff, true_and]
    refine ⟨congrArg State.divAcc (hticks _).rest, ((hticks _).bytes _ (by decide)).trans hdiv, ⟨rfl, hrun _⟩,
      fun a hDIV hTIMA hIF => ((hticks _).bytes a (not_or.2 ⟨hTIMA, hIF⟩)).trans (hother hDIV), ?_⟩
    rw [(hticks _).rest]
    rfl

/-- Settles O54: a new press is a raw write of IF beside the buttons and the latch. -/
theorem keyPresses : Obligations.KeyPresses := by
  intro s b
  rw [bitSet_eq_setBit, bitCleared_eq_clearBit]
  refine ⟨fun hpressed => if_pos hpressed, fun hreleased => ?_, rfl⟩
  have hpress : s.keyPress b = { ({ s with buttons := setBit s.buttons b } : State).requestInterrupt 4 with stopped := false } :=
    if_neg (ne_true_of_eq_false hreleased)
  rw [hpress]
  exact ⟨State.memAt_requestInterrupt_requests _ 4, fun a ha => State.memAt_requestInterrupt_other _ 4 ha, rfl⟩

end Sys2Proof.Proofs
end

section
/-! What the parts of LcdUpdate write: the bytes IF, STAT and LY, and the picture. -/

namespace Sys2Proof.Machine

/-! ### A request under a condition -/

theorem onlyMem_requestIf {A : Nat → Prop} (p : Prop) [Decidable p] (s : State) (k : Nat) (h : A 0xFF0F) :
    OnlyMem A s (if p then s.requestInterrupt k else s) :=
  (onlyMem_requestInterrupt s k h).ite (OnlyMem.refl A s)

theorem State.memAt_requestIf_requests (p : Prop) [Decidable p] (s : State) (k : Nat) :
    (if p then s.requestInterrupt k else s).memAt 0xFF0F = s.memAt 0xFF0F ||| (if p then irqMask k else 0) := by
  split
  · exact s.memAt_requestInterrupt_requests k
  · exact BitVec.or_zero.symm

theorem State.memAt_requestIf_other (p : Prop) [Decidable p] (s : State) (k : Nat) {a : Nat} (h : a ≠ 0xFF0F) :
    (if p then s.requestInterrupt k else s).memAt a = s.memAt a :=
  (onlyMem_requestIf (A := fun x => x = 0xFF0F) p s k rfl).bytes a h

/-! ### The next line (R541) -/

@[simp] theorem State.memAt_presentFrame (s : State) (a : Nat) : s.presentFrame.memAt a = s.memAt a := rfl

theorem State.advanceLine_of_vblank {s : State} (h : s.memAt 0xFF44 + 1 = 144) :
    s.advanceLine = ((s.pokeMem 0xFF44 (s.memAt 0xFF44 + 1)).requestInterrupt 0).presentFrame := by
  have hly : ((s.pokeMem 0xFF44 (s.memAt 0xFF44 + 1)).requestInterrupt 0).presentFrame.memAt 0xFF44 = 144 := by
    rw [State.memAt_presentFrame, State.memAt_requestInterrupt_other _ _ (by decide), State.memAt_pokeMem_same, h]
  rw [State.advanceLine]
  simp only [State.memAt_pokeMem_same, if_pos h, hly]
  rfl

theorem State.advanceLine_of_last {s : State} (h : 153 < (s.memAt 0xFF44 + 1).toNat) :
    s.advanceLine = (s.pokeMem 0xFF44 (s.memAt 0xFF44 + 1)).pokeMem 0xFF44 0 := by
  have hne : s.memAt 0xFF44 + 1 ≠ 144 := fun he => absurd h (by rw [he]; decide)
  simp only [State.advanceLine, State.memAt_pokeMem_same, if_neg hne, if_pos h]

theorem State.advanceLine_of_next {s : State} (hne : s.memAt 0xFF44 + 1 ≠ 144) (h : (s.memAt 0xFF44 + 1).toNat ≤ 153) :
    s.advanceLine = s.pokeMem 0xFF44 (s.memAt 0xFF44 + 1) := by
  simp only [State.advanceLine, State.memAt_pokeMem_same, if_neg hne, if_neg (Nat.not_lt.2 h)]

/-- The three ways to the next line: into VBlank, from the last line to line 0, and to a line without an event. -/
theorem State.advanceLine_cases (s : State) :
    ((s.memAt 0xFF44).toNat + 1 = 144 ∧
      s.advanceLine = ((s.pokeMem 0xFF44 (s.memAt 0xFF44 + 1)).requestInterrupt 0).presentFrame) ∨
    ((s.memAt 0xFF44).toNat + 1 ≠ 144 ∧ 153 < (s.memAt 0xFF44 + 1).toNat ∧
      s.advanceLine = (s.pokeMem 0xFF44 (s.memAt 0xFF44 + 1)).pokeMem 0xFF44 0) ∨
    ((s.memAt 0xFF44).toNat + 1 ≠ 144 ∧ (s.memAt 0xFF44 + 1).toNat ≤ 153 ∧
      s.advanceLine = s.pokeMem 0xFF44 (s.memAt 0xFF44 + 1)) := by
  by_cases h144 : s.memAt 0xFF44 + 1 = 144
  · exact .inl ⟨by bv_omega, State.advanceLine_of_vblank h144⟩
  · have hne : (s.memAt 0xFF44).toNat + 1 ≠ 144 := by bv_omega
    rcases Nat.lt_or_ge 153 (s.memAt 0xFF44 + 1).toNat with hlast | hnext
    · exact .inr (.inl ⟨hne, hlast, State.advanceLine_of_last hlast⟩)
    · exact .inr (.inr ⟨hne, hnext, State.advanceLine_of_next h144 hnext⟩)

theorem State.memAt_advanceLine_ly (s : State) :
    (s.advanceLine.memAt 0xFF44).toNat =
      if 153 < (s.memAt 0xFF44).toNat + 1 then 0 else (s.memAt 0xFF44).toNat + 1 := by
  rcases s.advanceLine_cases with ⟨h, heq⟩ | ⟨-, h, heq⟩ | ⟨-, h, heq⟩ <;> rw [heq]
  case inl =>
    rw [State.memAt_presentFrame, State.memAt_requestInterrupt_other _ _ (by decide), State.memAt_pokeMem_same]
    split <;> bv_omega
  all_goals
    rw [State.memAt_pokeMem_same]
    split <;> bv_omega

theorem State.memAt_advanceLine_requests (s : State) :
    s.advanceLine.memAt 0xFF0F = s.memAt 0xFF0F ||| (if (s.memAt 0xFF44).toNat + 1 = 144 then 0x01 else 0x00) := by
  have hly : ∀ {t : State} (v : Byte), (t.pokeMem 0xFF44 v).memAt 0xFF0F = t.memAt 0xFF0F :=
    fun v => State.memAt_pokeMem_other _ v (by decide)
  rcases s.advanceLine_cases with ⟨h, heq⟩ | ⟨h, -, heq⟩ | ⟨h, -, heq⟩ <;> rw [heq]
  · rw [if_pos h, State.memAt_presentFrame, State.memAt_requestInterrupt_requests, hly]
    rfl
  · rw [if_neg h, hly, hly]
    exact BitVec.or_zero.symm
  · rw [if_neg h, hly]
    exact BitVec.or_zero.symm

/-- The frame presented, if VBlank is entered. -/
def State.presentIf (p : Prop) [Decidable p] (s : State) : State :=
  { s with outputs := if p then .present s.framebuffer :: s.outputs else s.outputs }

theorem State.presentIf_pos {p : Prop} [Decidable p] (s : State) (h : p) : s.presentIf p = s.presentFrame := by
  rw [State.presentIf, if_pos h]
  rfl

theorem State.presentIf_neg {p : Prop} [Decidable p] (s : State) (h : ¬ p) : s.presentIf p = s := by
  rw [State.presentIf, if_neg h]

/-- Beside IF and LY, the next line hands out the frame if it enters VBlank. -/
theorem onlyMem_advanceLine (s : State) :
    OnlyMem (fun x => x = 0xFF0F ∨ x = 0xFF44) (s.presentIf ((s.memAt 0xFF44).toNat + 1 = 144)) s.advanceLine := by
  rcases s.advanceLine_cases with ⟨h, heq⟩ | ⟨h, -, heq⟩ | ⟨h, -, heq⟩ <;> rw [heq]
  · rw [s.presentIf_pos h]
    exact (onlyMem_pokeMem s.presentFrame 0xFF44 _ (.inr rfl)).trans (onlyMem_requestInterrupt _ 0 (.inl rfl))
  · rw [s.presentIf_neg h]
    exact (onlyMem_pokeMem s _ _ (.inr rfl)).trans (onlyMem_pokeMem _ _ _ (.inr rfl))
  · rw [s.presentIf_neg h]
    exact onlyMem_pokeMem s _ _ (.inr rfl)

/-! ### Coincidence (R542) -/

theorem onlyMem_coincidence (s : State) : OnlyMem (fun x => x = 0xFF0F ∨ x = 0xFF41) s s.coincidence :=
  (onlyMem_requestIf _ s 1 (.inl rfl)).trans (onlyMem_pokeMem _ _ _ (.inr rfl))

theorem State.memAt_coincidence_stat (s : State) :
    s.coincidence.memAt 0xFF41 =
      if s.memAt 0xFF44 = s.memAt 0xFF45 then setBit (s.memAt 0xFF41) 2 else clearBit (s.memAt 0xFF41) 2 := by
  simp (disch := decide) only [State.coincidence, State.memAt_pokeMem_same, State.memAt_requestIf_other, decide_eq_true_eq]

theorem State.memAt_coincidence_requests (s : State) :
    s.coincidence.memAt 0xFF0F =
      s.memAt 0xFF0F ||| (if (decide (s.memAt 0xFF44 = s.memAt 0xFF45) && !s.stat 2 && s.stat 6) = true then 0x02 else 0x00) :=
  (State.memAt_pokeMem_other _ _ (by decide)).trans (State.memAt_requestIf_requests _ s 1)

/-! ### The mode (R541) -/

theorem onlyMem_lcdMode (s : State) : OnlyMem (fun x => x = 0xFF0F ∨ x = 0xFF41) s s.lcdMode :=
  (onlyMem_pokeMem s _ _ (.inr rfl)).trans (onlyMem_requestIf _ _ 1 (.inl rfl))

theorem State.memAt_lcdMode_stat (s : State) :
    s.lcdMode.memAt 0xFF41 = s.memAt 0xFF41 &&& 0xFC ||| s.lcdModeNow :=
  (State.memAt_requestIf_other _ _ 1 (by decide)).trans (State.memAt_pokeMem_same s _ _)

/-! ### The line end as a whole (R541) -/

/-- The line just ended, rendered if it is visible. -/
def State.renderEnded (s : State) : State :=
  if (s.memAt 0xFF44).toNat < 144 then s.renderLine (s.memAt 0xFF44).toNat else s

theorem State.memAt_renderEnded (s : State) (a : Nat) : s.renderEnded.memAt a = s.memAt a := by
  rw [State.renderEnded]
  split <;> rfl

/-- What the line end leaves beside the bytes of `mem`: the picture, the frame handed out, the accumulator. -/
def State.lineEndPicture (s : State) : State :=
  if 456 ≤ s.lcdAcc then
    { s.renderEnded.presentIf ((s.renderEnded.memAt 0xFF44).toNat + 1 = 144) with lcdAcc := s.renderEnded.lcdAcc - 456 }
  else s

theorem State.lcdLineEnd_of_not_le {s : State} (h : ¬ 456 ≤ s.lcdAcc) : s.lcdLineEnd = s := if_neg h

theorem State.lcdLineEnd_of_le {s : State} (h : 456 ≤ s.lcdAcc) :
    s.lcdLineEnd =
      { s.renderEnded.advanceLine.coincidence with lcdAcc := s.renderEnded.advanceLine.coincidence.lcdAcc - 456 } := if_pos h

theorem State.memAt_withLcdAcc (s : State) (n a : Nat) : ({ s with lcdAcc := n } : State).memAt a = s.memAt a := rfl

theorem State.memAt_lcdLineEnd_of_le {s : State} (h : 456 ≤ s.lcdAcc) (a : Nat) :
    s.lcdLineEnd.memAt a = s.renderEnded.advanceLine.coincidence.memAt a := by
  rw [State.lcdLineEnd_of_le h]
  exact State.memAt_withLcdAcc _ _ a

/-- The accumulator is no matter of `mem`. -/
theorem OnlyMem.withLcdAcc {A : Nat → Prop} {s t : State} (h : OnlyMem A s t) (n : Nat) :
    OnlyMem A { s with lcdAcc := n } { t with lcdAcc := n } :=
  ⟨congrArg (fun u : State => { u with lcdAcc := n }) h.rest, h.bytes, h.wf⟩

theorem onlyMem_lcdLineEnd (s : State) :
    OnlyMem (fun x => x = 0xFF0F ∨ x = 0xFF41 ∨ x = 0xFF44) s.lineEndPicture s.lcdLineEnd := by
  by_cases h : 456 ≤ s.lcdAcc
  · rw [State.lineEndPicture, if_pos h, State.lcdLineEnd_of_le h]
    generalize s.renderEnded = r
    have hline := ((onlyMem_advanceLine r).mono (B := fun x => x = 0xFF0F ∨ x = 0xFF41 ∨ x = 0xFF44)
      (by omega)).trans ((onlyMem_coincidence _).mono (by omega))
    have hacc : r.advanceLine.coincidence.lcdAcc = r.lcdAcc := by
      rw [hline.rest]
      rfl
    rw [hacc]
    exact hline.withLcdAcc _
  · rw [State.lineEndPicture, if_neg h, State.lcdLineEnd_of_not_le h]
    exact OnlyMem.refl _ s

/-! ### The picture a line end leaves -/

theorem State.renderEnded_framebuffer (s : State) : s.renderEnded.framebuffer =
    if (s.memAt 0xFF44).toNat < 144 then (s.renderLine (s.memAt 0xFF44).toNat).framebuffer else s.framebuffer := by
  rw [State.renderEnded, apply_ite State.framebuffer]

theorem State.renderEnded_lineShade (s : State) : s.renderEnded.lineShade =
    if (s.memAt 0xFF44).toNat < 144 then (s.renderLine (s.memAt 0xFF44).toNat).lineShade else s.lineShade := by
  rw [State.renderEnded, apply_ite State.lineShade]

theorem State.renderEnded_rest (s : State) :
    s.renderEnded = { s with framebuffer := s.renderEnded.framebuffer, lineShade := s.renderEnded.lineShade } := by
  rw [State.renderEnded]
  split <;> rfl

theorem State.lineEndPicture_of_not_le {s : State} (h : ¬ 456 ≤ s.lcdAcc) : s.lineEndPicture = s := if_neg h

theorem State.lineEndPicture_of_le {s : State} (h : 456 ≤ s.lcdAcc) :
    s.lineEndPicture =
      { s with
        lcdAcc := s.lcdAcc - 456
        framebuffer := s.renderEnded.framebuffer
        lineShade := s.renderEnded.lineShade
        outputs := if (s.memAt 0xFF44).toNat + 1 = 144 then .present s.renderEnded.framebuffer :: s.outputs else s.outputs } := by
  rw [State.lineEndPicture, if_pos h, State.memAt_renderEnded, State.presentIf]
  rw [s.renderEnded_rest]

theorem State.lineEndPicture_lcdAcc (s : State) :
    s.lineEndPicture.lcdAcc = if 456 ≤ s.lcdAcc then s.lcdAcc - 456 else s.lcdAcc := by
  by_cases h : 456 ≤ s.lcdAcc
  · rw [State.lineEndPicture_of_le h, if_pos h]
  · rw [State.lineEndPicture_of_not_le h, if_neg h]

theorem State.lineEndPicture_framebuffer (s : State) :
    s.lineEndPicture.framebuffer = if 456 ≤ s.lcdAcc ∧ (s.memAt 0xFF44).toNat < 144 then
      (s.renderLine (s.memAt 0xFF44).toNat).framebuffer else s.framebuffer := by
  by_cases h : 456 ≤ s.lcdAcc
  · simp only [State.lineEndPicture_of_le h, State.renderEnded_framebuffer, h, true_and]
  · simp only [State.lineEndPicture_of_not_le h, h, false_and, if_false]

theorem State.lineEndPicture_lineShade (s : State) :
    s.lineEndPicture.lineShade = if 456 ≤ s.lcdAcc ∧ (s.memAt 0xFF44).toNat < 144 then
      (s.renderLine (s.memAt 0xFF44).toNat).lineShade else s.lineShade := by
  by_cases h : 456 ≤ s.lcdAcc
  · simp only [State.lineEndPicture_of_le h, State.renderEnded_lineShade, h, true_and]
  · simp only [State.lineEndPicture_of_not_le h, h, false_and, if_false]

theorem State.lineEndPicture_outputs (s : State) :
    s.lineEndPicture.outputs = if 456 ≤ s.lcdAcc ∧ (s.memAt 0xFF44).toNat + 1 = 144 then
      .present s.lineEndPicture.framebuffer :: s.outputs else s.outputs := by
  by_cases h : 456 ≤ s.lcdAcc
  · simp only [State.lineEndPicture_of_le h, h, true_and]
  · simp only [State.lineEndPicture_of_not_le h, h, false_and, if_false]

theorem State.lineEndPicture_rest (s : State) :
    s.lineEndPicture = { s with
      lcdAcc := s.lineEndPicture.lcdAcc
      framebuffer := s.lineEndPicture.framebuffer
      lineShade := s.lineEndPicture.lineShade
      outputs := s.lineEndPicture.outputs } := by
  by_cases h : 456 ≤ s.lcdAcc
  · rw [State.lineEndPicture_of_le h]
  · rw [State.lineEndPicture_of_not_le h]

/-! ### LcdUpdate (R540, R541) -/

theorem State.lcdUpdate_of_on {s : State} (d : Nat) (h : s.lcdc 7 = true) :
    s.lcdUpdate d = ({ s with lcdAcc := s.lcdAcc + d } : State).lcdLineEnd.lcdMode := if_pos h

theorem State.lcdUpdate_of_off {s : State} (d : Nat) (h : s.lcdc 7 = false) : s.lcdUpdate d = s.lcdOff :=
  if_neg (ne_true_of_eq_false h)

theorem State.memAt_lcdOff_other (s : State) {a : Nat} (h : a ≠ 0xFF44) :
    s.lcdOff.memAt a = (s.pokeMem 0xFF41 (s.memAt 0xFF41 &&& 0xFC ||| 0x01)).memAt a := State.memAt_pokeMem_other _ _ h

end Sys2Proof.Machine
end

section
/-! LcdUpdate in the numbers of the statements. -/

namespace Sys2Proof.Statements

open Sys2Proof.Machine

/-! ### STAT as a number (R62) -/

theorem toNat_coincidenceBit (v : Byte) (p : Prop) [Decidable p] :
    (if p then setBit v 2 else clearBit v 2).toNat = v.toNat / 8 * 8 + 4 * (decide p).toNat + v.toNat % 4 := by
  have hbits : ∀ v : Byte, (setBit v 2).toNat = v.toNat / 8 * 8 + 4 + v.toNat % 4 ∧
      (clearBit v 2).toNat = v.toNat / 8 * 8 + v.toNat % 4 := by decide
  obtain ⟨hset, hclear⟩ := hbits v
  by_cases h : p <;> simp [h, hset, hclear]

/-- Storing a mode keeps bits 7:2. -/
theorem toNat_storeMode (v : Byte) {m : Nat} (hm : m < 4) : (v &&& 0xFC ||| BitVec.ofNat 8 m).toNat = v.toNat / 4 * 4 + m := by
  have hall : ∀ (v : Byte) (m : Fin 4), (v &&& 0xFC ||| BitVec.ofNat 8 m).toNat = v.toNat / 4 * 4 + m := by decide
  exact hall v ⟨m, hm⟩

theorem toNat_and_0x03 (v : Byte) : (v &&& 0x03).toNat = v.toNat % 4 := by
  rw [BitVec.toNat_and]
  exact Nat.and_two_pow_sub_one_eq_mod v.toNat 2

/-- Bits 7:3 of STAT are those of its part above the mode and the coincidence bit. -/
theorem getLsbD_of_div_eight {v w : Byte} (h : v.toNat / 8 = w.toNat / 8) {i : Nat} (hi : 3 ≤ i) :
    v.getLsbD i = w.getLsbD i := by
  obtain ⟨j, rfl⟩ := Nat.exists_eq_add_of_le hi
  have hshift : ∀ u : Byte, u.getLsbD (3 + j) = (u.toNat / 8).testBit j := fun u => by
    rw [← BitVec.testBit_toNat, Nat.add_comm, ← Nat.testBit_div_two_pow]
  rw [hshift, hshift, h]

/-! ### The line end (R541, R542) -/

/-- The bytes that a line end leaves, from those of `s`: LY, STAT with the coincidence bit, and IF with the requests. -/
structure LineBytes (s u : State) (line : Nat) (flag vblank lyc : Bool) : Prop where
  ly : (u.memAt 0xFF44).toNat = line
  stat : (u.memAt 0xFF41).toNat = (s.memAt 0xFF41).toNat / 8 * 8 + 4 * flag.toNat + (s.memAt 0xFF41).toNat % 4
  requests : u.memAt 0xFF0F = s.memAt 0xFF0F ||| (if vblank then 0x01 else 0x00) ||| (if lyc then 0x02 else 0x00)

theorem lineBytes_lcdLineEnd_of_not_le {s : State} (h : ¬ 456 ≤ s.lcdAcc) :
    LineBytes s s.lcdLineEnd (s.memAt 0xFF44).toNat (ioBit s 0xFF41 2) false false := by
  rw [State.lcdLineEnd_of_not_le h]
  refine ⟨rfl, ?_, by simp⟩
  have hflag : ∀ v : Byte, v.toNat = v.toNat / 8 * 8 + 4 * (v.getLsbD 2).toNat + v.toNat % 4 := by decide
  exact hflag _

theorem lineBytes_lcdLineEnd_of_le {s : State} (h : 456 ≤ s.lcdAcc) :
    let next := if 153 < (s.memAt 0xFF44).toNat + 1 then 0 else (s.memAt 0xFF44).toNat + 1
    let coin := decide (next = (s.memAt 0xFF45).toNat)
    LineBytes s s.lcdLineEnd next coin (decide ((s.memAt 0xFF44).toNat + 1 = 144))
      (coin && !ioBit s 0xFF41 2 && ioBit s 0xFF41 6) := by
  intro next coin
  have hly : ((s.renderEnded.advanceLine).memAt 0xFF44).toNat = next := by
    rw [State.memAt_advanceLine_ly, State.memAt_renderEnded]
  have hkept : ∀ {a}, a ≠ 0xFF0F → a ≠ 0xFF44 → s.renderEnded.advanceLine.memAt a = s.memAt a := fun hIF hLY =>
    ((onlyMem_advanceLine s.renderEnded).bytes _ (not_or.2 ⟨hIF, hLY⟩)).trans (s.memAt_renderEnded _)
  have hstat : s.renderEnded.advanceLine.memAt 0xFF41 = s.memAt 0xFF41 := hkept (by decide) (by decide)
  have hcoin : decide (s.renderEnded.advanceLine.memAt 0xFF44 = s.renderEnded.advanceLine.memAt 0xFF45) = coin := by
    rw [decide_eq_decide, ← BitVec.toNat_inj, hly, hkept (by decide) (by decide)]
  refine ⟨?_, ?_, ?_⟩ <;> rw [State.memAt_lcdLineEnd_of_le h]
  · rw [(onlyMem_coincidence _).bytes 0xFF44 (by decide), hly]
  · rw [State.memAt_coincidence_stat, toNat_coincidenceBit, hstat, hcoin]
  · rw [State.memAt_coincidence_requests, hcoin, State.stat, State.stat, hstat, State.memAt_advanceLine_requests]
    rw [State.memAt_renderEnded, State.memAt_renderEnded]
    simp only [decide_eq_true_eq]
    rfl

theorem lineBytes_lcdLineEnd (s : State) :
    let ly := (s.memAt 0xFF44).toNat
    let ended := decide (456 ≤ s.lcdAcc)
    let line := if ended then (if 153 < ly + 1 then 0 else ly + 1) else ly
    let coin := decide (line = (s.memAt 0xFF45).toNat)
    LineBytes s s.lcdLineEnd line (if ended then coin else ioBit s 0xFF41 2) (ended && decide (ly + 1 = 144))
      (ended && coin && !ioBit s 0xFF41 2 && ioBit s 0xFF41 6) := by
  by_cases h : 456 ≤ s.lcdAcc
  · simpa [h] using lineBytes_lcdLineEnd_of_le h
  · simpa [h] using lineBytes_lcdLineEnd_of_not_le h

/-! ### The mode (R541) -/

/-- The position in the line as the integer of the rule (R541). -/
def linePos (s : State) : Int := if s.cfg.modePosition = .countdown then 456 - (s.lcdAcc : Int) else s.lcdAcc

/-- The mode of a line and position (R541). -/
def modeAt (line : Nat) (pos : Int) : Nat := if 144 ≤ line then 1 else if 376 ≤ pos then 2 else if 204 ≤ pos then 3 else 0

/-- A position below 0 and one at 0 give the same mode (log 23). -/
theorem le_linePosition_iff (s : State) {n : Nat} (hn : 0 < n) : n ≤ s.linePosition ↔ (n : Int) ≤ linePos s := by
  rw [State.linePosition, linePos]
  cases s.cfg.modePosition
  case countdown =>
    rw [if_pos rfl]
    dsimp only
    omega
  case ascending =>
    rw [if_neg (by decide)]
    exact Int.ofNat_le.symm

theorem lcdModeNow_eq (s : State) : s.lcdModeNow = BitVec.ofNat 8 (modeAt (s.memAt 0xFF44).toNat (linePos s)) := by
  simp (disch := decide) only [State.lcdModeNow, modeAt, apply_ite (BitVec.ofNat 8), le_linePosition_iff]
  rfl

theorem modeAt_lt (line : Nat) (pos : Int) : modeAt line pos < 4 := by
  unfold modeAt
  repeat' split
  all_goals decide

theorem toNat_lcdModeNow (s : State) : s.lcdModeNow.toNat = modeAt (s.memAt 0xFF44).toNat (linePos s) := by
  have hlt := modeAt_lt (s.memAt 0xFF44).toNat (linePos s)
  rw [lcdModeNow_eq, BitVec.toNat_ofNat, Nat.mod_eq_of_lt (by omega)]

theorem toNat_lcdMode_stat (s : State) :
    (s.lcdMode.memAt 0xFF41).toNat = (s.memAt 0xFF41).toNat / 4 * 4 + modeAt (s.memAt 0xFF44).toNat (linePos s) := by
  rw [State.memAt_lcdMode_stat, lcdModeNow_eq, toNat_storeMode _ (modeAt_lt _ _)]

/-- Whether STAT watches the entry into a mode that is not the mode it shows (R541). -/
def watchedEntry (s : State) (mode : Nat) : Bool :=
  decide (mode ≠ (s.memAt 0xFF41).toNat % 4 ∧
    ((mode = 0 ∧ ioBit s 0xFF41 3 = true) ∨ (mode = 1 ∧ ioBit s 0xFF41 4 = true) ∨ (mode = 2 ∧ ioBit s 0xFF41 5 = true)))

theorem memAt_lcdMode_requests (s : State) :
    s.lcdMode.memAt 0xFF0F =
      s.memAt 0xFF0F ||| (if watchedEntry s (modeAt (s.memAt 0xFF44).toNat (linePos s)) then 0x02 else 0x00) := by
  have hmode : ∀ k : Byte, s.lcdModeNow = k ↔ modeAt (s.memAt 0xFF44).toNat (linePos s) = k.toNat := fun k => by
    rw [← BitVec.toNat_inj, toNat_lcdModeNow]
  have hwatch : ∀ {i}, 3 ≤ i → (s.pokeMem 0xFF41 (s.memAt 0xFF41 &&& 0xFC ||| s.lcdModeNow)).stat i = ioBit s 0xFF41 i :=
    fun hi => by
      have hlt := modeAt_lt (s.memAt 0xFF44).toNat (linePos s)
      rw [State.stat, State.memAt_pokeMem_same, lcdModeNow_eq]
      refine getLsbD_of_div_eight ?_ hi
      rw [toNat_storeMode _ hlt]
      omega
  refine (State.memAt_requestIf_requests _ _ 1).trans ?_
  simp (disch := decide) only [hmode, hwatch, ne_eq, toNat_and_0x03, watchedEntry, decide_eq_true_eq]
  rw [State.memAt_pokeMem_other _ _ (by decide)]
  rfl

/-! ### The line end, then the mode -/

/-- The line end keeps all of STAT that the watch on a mode reads. -/
theorem LineBytes.watchedEntry_eq {s u : State} {line : Nat} {flag vblank lyc : Bool} (h : LineBytes s u line flag vblank lyc)
    (mode : Nat) : watchedEntry u mode = watchedEntry s mode := by
  have hstat := h.stat
  have hflag := flag.toNat_le
  have hmode : (u.memAt 0xFF41).toNat % 4 = (s.memAt 0xFF41).toNat % 4 := by omega
  have hwatch : ∀ {i}, 3 ≤ i → ioBit u 0xFF41 i = ioBit s 0xFF41 i := fun hi => getLsbD_of_div_eight (by omega) hi
  simp (disch := decide) only [watchedEntry, hmode, hwatch]

/-- After the mode: LY stays, STAT has the coincidence bit and the new mode, and IF the requests of both. -/
theorem LineBytes.lcdMode {s u : State} {line : Nat} {flag vblank lyc : Bool} (h : LineBytes s u line flag vblank lyc) :
    let mode := modeAt line (linePos u)
    (u.lcdMode.memAt 0xFF44).toNat = line ∧
    (u.lcdMode.memAt 0xFF41).toNat = (s.memAt 0xFF41).toNat / 8 * 8 + 4 * flag.toNat + mode ∧
    u.lcdMode.memAt 0xFF0F =
      s.memAt 0xFF0F ||| (if vblank then 0x01 else 0x00) ||| (if lyc || watchedEntry s mode then 0x02 else 0x00) := by
  intro mode
  have hstat := h.stat
  have hflag := flag.toNat_le
  have hmode : modeAt (u.memAt 0xFF44).toNat (linePos u) = mode := by rw [h.ly]
  refine ⟨?_, ?_, ?_⟩
  · rw [(onlyMem_lcdMode u).bytes _ (by decide), h.ly]
  · rw [toNat_lcdMode_stat, hmode]
    omega
  · rw [memAt_lcdMode_requests, hmode, h.watchedEntry_eq, h.requests]
    cases lyc <;> cases watchedEntry s mode <;> simp [BitVec.or_assoc]

end Sys2Proof.Statements
end

section
/-! The obligations of 60_exceptions.md about LcdUpdate. -/

namespace Sys2Proof.Proofs

open Sys2Proof.Machine Sys2Proof.Statements

/-- Settles O48: off is two raw writes; on, nothing but the added delta reaches the accumulator before the line end. -/
theorem lcdDisabled : Obligations.LcdDisabled := by
  intro s d
  refine ⟨fun hoff => ?_, fun hon hlt => ?_⟩
  · have hupdate : s.lcdUpdate d = s.lcdOff := State.lcdUpdate_of_off d hoff
    have hstat : (s.lcdOff.memAt 0xFF41).toNat = (s.memAt 0xFF41).toNat / 4 * 4 + 1 := by
      rw [State.memAt_lcdOff_other s (by decide), State.memAt_pokeMem_same]
      exact toNat_storeMode _ (by decide)
    rw [hupdate]
    refine ⟨rfl, State.memAt_pokeMem_same _ _ _, hstat, fun a hSTAT hLY => ?_, rfl⟩
    rw [State.memAt_lcdOff_other s hLY, State.memAt_pokeMem_other s _ hSTAT]
  · rw [State.lcdUpdate_of_on d hon, State.lcdLineEnd_of_not_le (Nat.not_le.2 hlt), (onlyMem_lcdMode _).rest]

/-- Settles O49: the line end leaves its picture and writes LY, STAT and IF; the mode, from the line and position then reached,
writes STAT and IF again. -/
theorem lcdLine : Obligations.LcdLine := by
  intro s d hon t ly stat ended acc line coin pos mode flag vblank lycIrq modeIrq
  let s₀ : State := { s with lcdAcc := s.lcdAcc + d }
  have ht : t = s₀.lcdLineEnd.lcdMode := State.lcdUpdate_of_on d hon
  have hend := onlyMem_lcdLineEnd s₀
  have hframe : OnlyMem _ s₀.lineEndPicture t := ht ▸ hend.trans ((onlyMem_lcdMode _).mono (by omega))
  have hacc : s₀.lineEndPicture.lcdAcc = acc := by
    rw [State.lineEndPicture_lcdAcc]
    simp only [acc, ended, decide_eq_true_eq, s₀]
  have hpos : linePos s₀.lcdLineEnd = pos := by
    rw [hend.rest, s₀.lineEndPicture_rest]
    simp only [linePos, hacc]
    rfl
  obtain ⟨hly, hstat, hreq⟩ := (lineBytes_lcdLineEnd s₀).lcdMode
  rw [← ht] at hly hstat hreq
  rw [hpos] at hstat hreq
  refine ⟨?_, hly, hstat, hreq, ?_, ?_, ?_, fun a hIF hSTAT hLY => ?_, ?_⟩
  · rw [hframe.rest, ← hacc]
  · rw [hframe.rest]
    simp only [s₀.lineEndPicture_framebuffer, ended, decide_eq_true_eq]
    rfl
  · rw [hframe.rest]
    simp only [s₀.lineEndPicture_lineShade, ended, decide_eq_true_eq]
    rfl
  · rw [hframe.rest]
    simp only [s₀.lineEndPicture_outputs, vblank, ended, Bool.and_eq_true, decide_eq_true_eq]
    rfl
  · rw [hframe.bytes a (by omega), s₀.lineEndPicture_rest]
    rfl
  · rw [hframe.rest, s₀.lineEndPicture_rest]

end Sys2Proof.Proofs
end

section
/-! RenderLine in the numbers of the statements: planes, tiles, the two layers and the sprites. -/

namespace Sys2Proof.Statements

open Sys2Proof.Machine

/-! ### Pixels of a tile (R543, R67) -/

theorem toNat_getBit (v : Byte) (i : Nat) : (getBit v i).toNat = v.toNat / 2 ^ i % 2 := by
  rw [getBit, ← BitVec.testBit_toNat, Nat.toNat_testBit]

theorem colourIndex_eq_pixelIndex (p : Byte × Byte) (i : Nat) : colourIndex p.1 p.2 i = pixelIndex p i := by
  rw [colourIndex, toNat_getBit, toNat_getBit, pixelIndex, Nat.add_comm]

theorem toNat_paletteShade (pal : Byte) (ci : Nat) : (paletteShade pal ci).toNat = shadeIn pal ci := by
  rw [paletteShade, BitVec.toNat_setWidth, toNat_shiftRight_byte, pow_mul]
  rfl

theorem tileRowBytes_eq_tileRow (s : State) (tileAddr row : Nat) : s.tileRowBytes tileAddr row = tileRow s tileAddr row := by
  rw [State.tileRowBytes, tileRow]
  cases s.cfg.planeLayout <;> rfl

theorem bgTileAddr_eq_tileAt (s : State) (idx : Byte) : s.bgTileAddr idx = tileAt s idx := by
  have hlt := idx.isLt
  have hbit : ioBit s 0xFF40 4 = s.lcdc 4 := rfl
  rw [State.bgTileAddr, tileAt, hbit, BitVec.toInt_eq_toNat_cond]
  cases s.lcdc 4
  case true => simp
  case false =>
    simp only [Bool.false_eq_true, if_false, true_and]
    split <;> split <;> omega

/-! ### Background and window (R543, R544) -/

theorem toNat_mapShade (s : State) (base px py : Nat) : (s.mapShade base px py).toNat = mapPixel s base px py := by
  rw [State.mapShade, mapPixel]
  simp only [toNat_paletteShade, colourIndex_eq_pixelIndex, tileRowBytes_eq_tileRow, bgTileAddr_eq_tileAt]

theorem windowCovers_iff (s : State) (ly x : Nat) :
    s.windowCovers ly x = true ↔ ioBit s 0xFF40 5 = true ∧ ioBit s 0xFF40 0 = true ∧ (s.memAt 0xFF4A).toNat ≤ ly ∧
      (s.memAt 0xFF4B).toNat ≤ x + 7 := by
  simp only [State.windowCovers, Bool.and_eq_true, decide_eq_true_eq, and_assoc]
  rfl

theorem toNat_layerShade (s : State) (ly x : Nat) : (s.layerShade ly x).toNat = layerPixel s ly x := by
  rw [State.layerShade, layerPixel]
  simp only [windowCovers_iff, apply_ite BitVec.toNat, State.windowShade, State.bgShade, toNat_mapShade]
  rfl

/-! ### Sprites (R545, R546) -/

theorem spriteRow_eq (s : State) (ly i : Nat) :
    let y := (s.oamByte i 0).toNat
    let attr := s.oamByte i 3
    let row := if attr.getLsbD 6 then s.spriteHeight - 1 - (ly + 16 - y) else ly + 16 - y
    let tile := if s.spriteHeight = 16 then (s.oamByte i 2).toNat / 2 * 2 + row / 8 else (s.oamByte i 2).toNat
    let bytes := tileRow s (0x8000 + 16 * tile) (row % 8)
    s.spriteRow ly i =
      if y ≤ ly + 16 ∧ ly + 16 < y + s.spriteHeight then
        some ⟨(s.oamByte i 1).toNat - 8, bytes.1, bytes.2, attr, if attr.getLsbD 4 then s.memAt 0xFF49 else s.memAt 0xFF48⟩
      else none := by
  intro y attr row tile bytes
  have heven : ∀ v : Byte, (v &&& 0xFE).toNat = v.toNat / 2 * 2 := by decide
  have hdown : ((ly : Int) - ((s.oamByte i 0).toNat - 16)).toNat = ly + 16 - y := by omega
  have hcross : ((s.oamByte i 0).toNat : Int) - 16 ≤ ly ∧ (ly : Int) < ((s.oamByte i 0).toNat : Int) - 16 + s.spriteHeight ↔
      y ≤ ly + 16 ∧ ly + 16 < y + s.spriteHeight := by omega
  rw [State.spriteRow]
  simp only [hcross, hdown, heven, tileRowBytes_eq_tileRow]
  rfl

theorem map_spritePixel (r : SpriteRow) (x left : Nat) (under : Shade) (hleft : r.left = (left : Int) - 8) :
    let col := x + 8 - left
    let ci := pixelIndex (r.lo, r.hi) (if r.attr.getLsbD 5 then col else 7 - col)
    (spritePixel r x under).map BitVec.toNat =
      if left ≤ x + 8 ∧ x + 8 < left + 8 then
        if ci = 0 ∨ (r.attr.getLsbD 7 = true ∧ under.toNat ≠ 0) then none else some (shadeIn r.palette ci)
      else none := by
  intro col ci
  have hcol : ((x : Int) - ((left : Int) - 8)).toNat = col := by omega
  have hinside : 0 ≤ (x : Int) - ((left : Int) - 8) ∧ (x : Int) - ((left : Int) - 8) ≤ 7 ↔ left ≤ x + 8 ∧ x + 8 < left + 8 := by
    omega
  have hunder : under.toNat = 0 ↔ under = 0 := BitVec.toNat_inj (y := 0)
  rw [spritePixel, hleft]
  simp only [hinside, hcol, colourIndex_eq_pixelIndex (r.lo, r.hi), getBit, ne_eq, hunder]
  split
  case isTrue =>
    change Option.map _ (if ci = 0 then _ else _) = _
    by_cases hclear : ci = 0
    · rw [if_pos hclear, if_pos (Or.inl hclear)]
      rfl
    · by_cases hbehind : r.attr.getLsbD 7 = true ∧ ¬ under = 0
      · rw [if_neg hclear, if_pos hbehind, if_pos (Or.inr hbehind)]
        rfl
      · rw [if_neg hclear, if_neg hbehind, if_neg (not_or.2 ⟨hclear, hbehind⟩), ← toNat_paletteShade]
        rfl
  case isFalse => rfl

/-- What sprite `i` draws, from its part of the line. -/
theorem map_spriteRow_bind_spritePixel (s : State) (ly x i : Nat) :
    ((s.spriteRow ly i).bind (fun r => spritePixel r x (s.layerShade ly x))).map BitVec.toNat = spriteAt s ly x i := by
  rw [spriteRow_eq]
  by_cases hrow : (s.oamByte i 0).toNat ≤ ly + 16 ∧ ly + 16 < (s.oamByte i 0).toNat + s.spriteHeight
  · rw [if_pos hrow, Option.bind_some, map_spritePixel _ x (s.oamByte i 1).toNat _ rfl, toNat_layerShade]
    obtain ⟨htop, hbottom⟩ := hrow
    by_cases hcol : (s.oamByte i 1).toNat ≤ x + 8 ∧ x + 8 < (s.oamByte i 1).toNat + 8
    · exact (if_pos hcol).trans (if_pos ⟨htop, hbottom, hcol⟩).symm
    · exact (if_neg hcol).trans (if_neg fun ⟨_, _, hin⟩ => hcol hin).symm
  · rw [if_neg hrow]
    exact (if_neg fun ⟨htop, hbottom, _⟩ => hrow ⟨htop, hbottom⟩).symm

/-- Drawing from the last index down leaves the pixel of the lowest index that has one. -/
theorem toNat_overlaySprites (rowOf : Nat → Option SpriteRow) (x : Nat) (under : Shade) (l : List Nat) :
    (overlaySprites (l.filterMap rowOf) x under).toNat =
      (l.findSome? (fun i => ((rowOf i).bind (fun r => spritePixel r x under)).map BitVec.toNat)).getD under.toNat := by
  rw [overlaySprites]
  induction l with
  | nil => rfl
  | cons i l ih =>
    rw [List.filterMap_cons, List.findSome?_cons]
    cases hrow : rowOf i with
    | none => simpa [hrow] using ih
    | some r =>
      cases hpixel : spritePixel r x under with
      | none => simpa [hpixel] using ih
      | some shade => simp [hpixel]

theorem toNat_overlayLine (s : State) (ly x : Nat) :
    (overlaySprites (s.spriteRows ly) x (s.layerShade ly x)).toNat = (spritePixelOf s ly x).getD (layerPixel s ly x) := by
  have hbit : ioBit s 0xFF40 1 = s.lcdc 1 := rfl
  rw [spritePixelOf, State.spriteRows, hbit, ← toNat_layerShade]
  cases s.lcdc 1 with
  | false => rfl
  | true =>
    rw [if_pos rfl, if_pos rfl, toNat_overlaySprites]
    simp only [map_spriteRow_bind_spritePixel]

theorem rgbOf_eq_colourOf (shade : Shade) : rgbOf shade = colourOf shade.toNat := by
  revert shade; decide

end Sys2Proof.Statements
end

section
/-! The obligation of 60_exceptions.md about the picture. -/

namespace Sys2Proof.Proofs

open Sys2Proof.Machine Sys2Proof.Statements

/-- Settles O50: the line's two lists, at a column, are the model's layer shade and its sprites over it; the other lines stay. -/
theorem renderedPixels : Obligations.RenderedPixels := by
  intro s ly x hly hx hlength
  refine ⟨?_, ?_, fun y hy => List.getElem?_set_ne (Ne.symm hy), rfl⟩
  · rw [← toNat_layerShade, BitVec.ofNat_toNat, BitVec.setWidth_eq]
    simp [State.renderLine, hx]
  · have hpixel : (s.renderLine ly).framebuffer[ly]?.bind (fun row => row[x]?) =
        some (colourOf ((spritePixelOf s ly x).getD (layerPixel s ly x))) := by
      rw [← toNat_overlayLine, ← rgbOf_eq_colourOf]
      simp [State.renderLine, hx, hly, hlength]
    rw [hpixel]
    cases spritePixelOf s ly x <;> rfl

end Sys2Proof.Proofs
end

/-! ## Proofs about decode and encode (30_encoding.md; 47_system.md R407, R408) -/

section
/-! The round trip between instructions and their bytes. -/

namespace Sys2Proof.Statements

open Sys2Proof.Machine

/-- The byte-level half of the round trip, for every instruction. -/
theorem encoding_statement (i : Instr) : Laws.Encoding.Statement i := by
  cases i
  case prefix_CB => exact fun hw => absurd hw Bool.false_ne_true
  case ld_BC_nn nn => exact Laws.Encoding.ld_BC_nn nn
  case ld_atnn_SP nn => exact Laws.Encoding.ld_atnn_SP nn
  case ld_DE_nn nn => exact Laws.Encoding.ld_DE_nn nn
  case ld_HL_nn nn => exact Laws.Encoding.ld_HL_nn nn
  case ld_SP_nn nn => exact Laws.Encoding.ld_SP_nn nn
  case jp_NZ_nn nn => exact Laws.Encoding.jp_NZ_nn nn
  case jp_nn nn => exact Laws.Encoding.jp_nn nn
  case call_NZ_nn nn => exact Laws.Encoding.call_NZ_nn nn
  case jp_Z_nn nn => exact Laws.Encoding.jp_Z_nn nn
  case call_Z_nn nn => exact Laws.Encoding.call_Z_nn nn
  case call_nn nn => exact Laws.Encoding.call_nn nn
  case jp_NC_nn nn => exact Laws.Encoding.jp_NC_nn nn
  case call_NC_nn nn => exact Laws.Encoding.call_NC_nn nn
  case jp_C_nn nn => exact Laws.Encoding.jp_C_nn nn
  case call_C_nn nn => exact Laws.Encoding.call_C_nn nn
  case ld_atnn_A nn => exact Laws.Encoding.ld_atnn_A nn
  case ld_A_atnn nn => exact Laws.Encoding.ld_A_atnn nn
  all_goals exact fun _ _ _ => ⟨_, _, _, _, rfl, rfl, rfl⟩

/-- The operand bytes that follow the first byte `b0` (R162, R166). -/
def operandBytes (b0 n : Byte) (nn : Word) : List Byte :=
  if threeByteOpcodes.contains b0 then [loByte nn, hiByte nn] else if twoByteOpcodes.contains b0 then [n] else []

/-- Every cell of the base map but the escape encodes back to its first byte and operands (R168). -/
theorem encode_baseCell (b0 n : Byte) (nn : Word) (h : b0 ≠ 0xCB) :
    WellFormed (mapCell (baseMap n nn) b0) = true ∧ encode (mapCell (baseMap n nn) b0) = b0 :: operandBytes b0 n nn := by
  obtain ⟨k⟩ := b0
  fin_cases k
  all_goals try exact absurd rfl h -- the escape
  all_goals exact ⟨rfl, rfl⟩

/-- Every cell of the CB map encodes back to the escape and its second byte (R169). -/
theorem encode_cbCell (op2 : Byte) :
    WellFormed (mapCell cbMap op2) = true ∧ encode (mapCell cbMap op2) = [0xCB, op2] := by
  revert op2; decide

/-- What decodes is well formed, and its encoding is the bytes it was decoded from, as many as the first one says. -/
theorem encode_decodeBytes (b0 b1 b2 : Byte) :
    WellFormed (decodeBytes b0 b1 b2) = true ∧ encode (decodeBytes b0 b1 b2) = [b0, b1, b2].take (lengthOf b0) := by
  by_cases h : b0 = 0xCB
  · subst h
    exact encode_cbCell b1
  · obtain ⟨hwf, hencode⟩ := encode_baseCell b0 b1 (mkWord b2 b1) h
    rw [decodeBytes, if_neg h, hencode, operandBytes, lengthOf]
    refine ⟨hwf, ?_⟩
    split
    · rw [loByte_mkWord, hiByte_mkWord]
      rfl
    · split <;> rfl

theorem lengthOf_cases (b0 : Byte) : lengthOf b0 = 1 ∨ lengthOf b0 = 2 ∨ lengthOf b0 = 3 := by
  unfold lengthOf
  split
  · exact .inr (.inr rfl)
  · split
    · exact .inr (.inl rfl)
    · exact .inl rfl

theorem decode_cons_of_le {b0 : Byte} {rest : List Byte} (h : lengthOf b0 ≤ rest.length + 1) :
    decode (b0 :: rest) = .ok (decodeBytes b0 (rest.getD 0 0) (rest.getD 1 0), rest.drop (lengthOf b0 - 1)) :=
  if_neg (Nat.not_lt.2 h)

/-- When a byte list decodes: it is long enough for its first byte, and the instruction and the rest are those of the decoder. -/
theorem decode_eq_ok {bytes rest' : List Byte} {i : Instr} (h : decode bytes = .ok (i, rest')) :
    ∃ b0 rest, bytes = b0 :: rest ∧ lengthOf b0 ≤ rest.length + 1 ∧ i = decodeBytes b0 (rest.getD 0 0) (rest.getD 1 0) ∧
      rest' = rest.drop (lengthOf b0 - 1) := by
  cases bytes with
  | nil => cases h
  | cons b0 rest =>
    by_cases hlen : rest.length + 1 < lengthOf b0
    · rw [decode, if_pos hlen] at h
      cases h
    · rw [decode_cons_of_le (Nat.not_lt.1 hlen)] at h
      cases h
      exact ⟨b0, rest, rfl, Nat.not_lt.1 hlen, rfl, rfl⟩

/-- The bytes an instruction takes, and what is left of them. -/
theorem take_append_drop_length {b0 : Byte} {rest : List Byte} (h : lengthOf b0 ≤ rest.length + 1) :
    [b0, rest.getD 0 0, rest.getD 1 0].take (lengthOf b0) ++ rest.drop (lengthOf b0 - 1) = b0 :: rest := by
  rcases lengthOf_cases b0 with hlen | hlen | hlen <;> rw [hlen] at h ⊢
  · rfl
  · obtain ⟨b1, tail, rfl⟩ := List.exists_cons_of_length_pos (l := rest) (by omega)
    rfl
  · obtain ⟨b1, tail, rfl⟩ := List.exists_cons_of_length_pos (l := rest) (by omega)
    obtain ⟨b2, tail, rfl⟩ := List.exists_cons_of_length_pos (l := tail) (by rw [List.length_cons] at h; omega)
    rfl

/-- The words of a list decode to their instructions if they are these instructions' encodings. -/
theorem encodes_of_forall_encode {l : List (List Byte × Instr)} (h : ∀ p ∈ l, WellFormed p.2 = true ∧ encode p.2 = p.1) :
    ∀ p ∈ l, encodes p.2 p.1 := fun p hp =>
  encodes_of_encode_eq (encoding_statement p.2) (h p hp).1 (h p hp).2

/-- The statement's length of an instruction is the model's (R162). -/
theorem length_eq_lengthOf (b : Byte) :
    (if b.toNat ∈ threeBytes then 3 else if b.toNat ∈ twoBytes then 2 else 1) = lengthOf b := by
  revert b; decide

/-- The eleven illegal rows: a byte encodes its row, and the row raises the fault that names the byte (R170, R408). -/
theorem illegal_rows : ∀ p ∈ illegal, WellFormed p.2 = true ∧ encode p.2 = [p.1] ∧
    ∀ s : State, exec p.2 s = .next (s.raiseUnimplemented p.1) := by
  intro p hp
  fin_cases hp <;> exact ⟨rfl, rfl, fun _ => rfl⟩

theorem encodes_illegal {p : Byte × Instr} (hp : p ∈ illegal) : encodes p.2 [p.1] := by
  obtain ⟨hwf, hencode, -⟩ := illegal_rows p hp
  exact encodes_of_encode_eq (encoding_statement p.2) hwf hencode

theorem cbCell_ne_illegal (op2 : Byte) : ∀ p ∈ illegal, mapCell cbMap op2 ≠ p.2 := by
  revert op2; decide

/-- The escape row runs the row of the CB map at its second byte (R407): the fields x, y and z of each byte name that row. -/
theorem exec_cbCell (s : State) (op2 : Byte) : exec (mapCell cbMap op2) s = .next (s.runCb op2) := by
  obtain ⟨k⟩ := op2
  fin_cases k <;> rfl

end Sys2Proof.Statements
end

section
/-! The obligations of 30_encoding.md. -/

namespace Sys2Proof.Proofs

open Sys2Proof.Machine Sys2Proof.Statements

/-- Settles O1: every instruction's bytes decode to it, whatever follows them. -/
theorem decodeOfEncode : Obligations.DecodeOfEncode := fun i rest hwf => encodes_encode (encoding_statement i) hwf rest

/-- Settles O2: what decodes encodes to the bytes that its first byte counts, and the decoder leaves the others. -/
theorem encodeOfDecoded : Obligations.EncodeOfDecoded := by
  intro bytes i rest' h
  obtain ⟨b0, rest, rfl, hlen, rfl, rfl⟩ := decode_eq_ok h
  obtain ⟨hwf, hencode⟩ := encode_decodeBytes b0 (rest.getD 0 0) (rest.getD 1 0)
  exact ⟨hwf, by rw [hencode, take_append_drop_length hlen]⟩

/-- Settles O3: each word is its instruction's encoding. -/
theorem specWordsDecode : Obligations.SpecWordsDecode :=
  ⟨encodes_of_forall_encode (by decide), encodes_of_forall_encode (by decide), encodes_of_forall_encode (by decide),
    encodes_of_forall_encode (by decide), encodes_of_forall_encode (by decide)⟩

/-- Settles O4: the decoder takes as many bytes as the first one counts, if there are so many. -/
theorem lengthByFirstByte : Obligations.LengthByFirstByte := by
  intro b rest
  rw [length_eq_lengthOf]
  refine ⟨fun i r h => ?_, fun hlen => ⟨_, _, decode_cons_of_le hlen⟩⟩
  obtain ⟨b0, rest, hbytes, hlen, -, rfl⟩ := decode_eq_ok h
  cases hbytes
  have hpos := lengthOf_cases b
  rw [List.length_drop]
  omega

/-- Settles O5: the illegal rows by the list, and no cell of the CB map is one of them. -/
theorem illegalOpcodes : Obligations.IllegalOpcodes :=
  ⟨fun p hp =>
      have ⟨_, _, hexec⟩ := illegal_rows p hp
      ⟨encodes_illegal hp, hexec⟩,
    fun op2 => ⟨mapCell cbMap op2, encodes_cbCell op2, cbCell_ne_illegal op2⟩⟩

/-- Settles O6: the selected row is the cell of the CB map. -/
theorem prefixCbRunsSelectedRow : Obligations.PrefixCbRunsSelectedRow := fun s op2 =>
  ⟨mapCell cbMap op2, s.runCb op2, encodes_cbCell op2, rfl, exec_cbCell s op2⟩

end Sys2Proof.Proofs
end

/-! ## Proofs about the bus, and what every row stores (20_memory.md; 70_reset_and_hazards.md R622) -/

section
/-! The remaining rows of WriteByte (R103, R104, R111, R112), and ReadByte by address (R90 to R97). -/

namespace Sys2Proof.Machine

/-! ### The remaining rows of WriteByte -/

section
variable (s : State) {x : Word} (v : Byte)

/-- R103. -/
theorem State.writeByte_upperBits (hc : s.cartType ≠ 0x00) (h1 : 0x4000 ≤ x.toNat) (h2 : x.toNat ≤ 0x5FFF) :
    s.writeByte x v = s.selectUpperBits v := by
  simp (disch := omega) only [State.writeByte, hc, and_false, if_false, if_neg, if_pos]

/-- R104. -/
theorem State.writeByte_mode (hc : s.cartType ≠ 0x00) (h1 : 0x6000 ≤ x.toNat) (h2 : x.toNat ≤ 0x7FFF) :
    s.writeByte x v = s.setMbcMode v := by
  simp (disch := omega) only [State.writeByte, hc, and_false, if_false, if_neg, if_pos]

/-- R111. -/
theorem State.writeByte_dma (h : x.toNat = 0xFF46) : s.writeByte x v = (s.pokeMem 0xFF46 v).oamDma v := by
  simp (disch := omega) only [State.writeByte, if_neg, if_pos]
  rw [h]

/-- R112, with the byte that unmaps the boot ROM. -/
theorem State.writeByte_unmap (h1 : 0xFF4C ≤ x.toNat) (h2 : x.toNat ≤ 0xFF7F) (hv : v = 0x01) :
    s.writeByte x v = (s.pokeMem x.toNat v).bootUnmap := by
  simp (disch := omega) only [State.writeByte, hv, if_true, if_neg, if_pos]

/-- R112, with any other byte. -/
theorem State.writeByte_noUnmap (h1 : 0xFF4C ≤ x.toNat) (h2 : x.toNat ≤ 0xFF7F) (hv : v ≠ 0x01) :
    s.writeByte x v = s.pokeMem x.toNat v := by
  simp (disch := omega) only [State.writeByte, hv, if_false, if_neg, if_pos]

end

/-! ### ReadByte -/

section
variable (s : State) {x : Word}

/-- R92. -/
theorem State.readByte_rom (h1 : 0x4000 ≤ x.toNat) (h2 : x.toNat ≤ 0x7FFF) : s.readByte x = s.romAt (s.romOffset x.toNat) := by
  simp (disch := omega) only [State.readByte, if_pos]

/-- R93. -/
theorem State.readByte_cartRam (h1 : 0xA000 ≤ x.toNat) (h2 : x.toNat ≤ 0xBFFF) :
    s.readByte x = if s.ramEnabled then s.ramAt (s.ramOffset x.toNat) else 0xFF := by
  simp (disch := omega) only [State.readByte, if_pos, if_neg]

/-- R95. -/
theorem State.readByte_requests (h : x.toNat = 0xFF0F) : s.readByte x = s.memAt 0xFF0F ||| 0xE0 := by
  simp (disch := omega) only [State.readByte, if_pos, if_neg]

/-- R97. -/
theorem State.readByte_audio (h1 : 0xFF10 ≤ x.toNat) (h2 : x.toNat ≤ 0xFF3F) : s.readByte x = 0xFF := by
  simp (disch := omega) only [State.readByte, if_pos, if_neg]

/-- R91, R96. -/
theorem State.readByte_plain (h1 : ¬(0x4000 ≤ x.toNat ∧ x.toNat ≤ 0x7FFF)) (h2 : ¬(0xA000 ≤ x.toNat ∧ x.toNat ≤ 0xBFFF))
    (h3 : x.toNat ≠ 0xFF00) (h4 : x.toNat ≠ 0xFF0F) (h5 : ¬(0xFF10 ≤ x.toNat ∧ x.toNat ≤ 0xFF3F)) :
    s.readByte x = s.memAt x.toNat := by
  simp (disch := omega) only [State.readByte, if_neg]

theorem State.ramOffset_ne (s : State) {a b : Nat} (ha : 0xA000 ≤ a) (hb : 0xA000 ≤ b) (h : a ≠ b) :
    s.ramOffset a ≠ s.ramOffset b := by
  unfold State.ramOffset
  omega

/-- A read looks at its byte of `mem`, and in a bank window at the memory behind it; FF00 at the buttons too. -/
theorem State.readByte_congr {s t : State} {y : Word} (hmem : t.memAt y.toNat = s.memAt y.toNat) (hbuttons : t.buttons = s.buttons)
    (hrom : 0x4000 ≤ y.toNat → y.toNat ≤ 0x7FFF → t.romAt (t.romOffset y.toNat) = s.romAt (s.romOffset y.toNat))
    (hram : 0xA000 ≤ y.toNat → y.toNat ≤ 0xBFFF → t.ramEnabled = s.ramEnabled ∧
      t.ramAt (t.ramOffset y.toNat) = s.ramAt (s.ramOffset y.toNat)) : t.readByte y = s.readByte y := by
  simp only [State.readByte]
  split_ifs with h4000 hA000 hte hse hse hFF00 hFF0F
  · exact hrom h4000.1 h4000.2
  · exact (hram hA000.1 hA000.2).2
  · exact absurd ((hram hA000.1 hA000.2).1 ▸ hte) hse
  · exact absurd ((hram hA000.1 hA000.2).1 ▸ hse) hte
  · rfl
  · rw [State.joypadRead, State.joypadRead, hbuttons, ← hFF00, hmem]
  · rw [← hFF0F, hmem]
  · rfl
  · exact hmem

end

/-- A raw writer of `mem` leaves the reads of every other address. -/
theorem OnlyMem.readByte {A : Nat → Prop} {s t : State} (h : OnlyMem A s t) {y : Word} (hy : ¬ A y.toNat) :
    t.readByte y = s.readByte y := by
  have hmem := h.bytes _ hy
  rw [h.rest] at hmem ⊢
  exact State.readByte_congr hmem rfl (fun _ _ => rfl) (fun _ _ => ⟨rfl, rfl⟩)

end Sys2Proof.Machine
end

section
/-! The cycle table is no matter of the bus. -/

namespace Sys2Proof.Statements

open Sys2Proof.Machine

section
variable (s : State) (table : List (CostKey × Nat))

theorem withTable_pokeMem (a : Nat) (v : Byte) : (withTable s table).pokeMem a v = withTable (s.pokeMem a v) table := rfl

theorem withTable_foldl {f : State → Nat → State} (hf : ∀ s i, f (withTable s table) i = withTable (f s i) table) (l : List Nat) :
    l.foldl f (withTable s table) = withTable (l.foldl f s) table := by
  induction l generalizing s with
  | nil => rfl
  | cons i l ih => rw [List.foldl_cons, List.foldl_cons, hf, ih]

theorem withTable_oamDma (v : Byte) : (withTable s table).oamDma v = withTable (s.oamDma v) table :=
  withTable_foldl s table (fun _ _ => rfl) _

theorem withTable_bootUnmap : (withTable s table).bootUnmap = withTable s.bootUnmap table :=
  congrArg (fun t : State => { t with bootMapped := false }) (withTable_foldl s table (fun _ _ => rfl) _)

theorem ite_withTable {p : Prop} [Decidable p] {x' y' x y : State} (hx : x' = withTable x table) (hy : y' = withTable y table) :
    (if p then x' else y') = withTable (if p then x else y) table := by
  split <;> assumption

theorem withTable_serialHook (v : Byte) : (withTable s table).serialHook v = withTable (s.serialHook v) table :=
  ite_withTable table rfl rfl

theorem withTable_selectUpperBits (v : Byte) : (withTable s table).selectUpperBits v = withTable (s.selectUpperBits v) table :=
  ite_withTable table rfl rfl

/-- A bus write does not look at the cycle table (R100, R622). -/
theorem withTable_writeByte (x : Word) (v : Byte) : (withTable s table).writeByte x v = withTable (s.writeByte x v) table := by
  have hrow := State.writeByte_elim (P := fun t => (withTable s table).writeByte x v = withTable t table) s x v
  refine hrow (fun h => ?_) (fun h hc => ?_) (fun h1 h2 hc => ?_) (fun h1 h2 hc => ?_) (fun h1 h2 hc => ?_)
    (fun h1 h2 he => ?_) (fun h1 h2 => ?_) (fun h1 h2 => ?_) (fun h => ?_) (fun h => ?_) (fun h => ?_) (fun h1 h2 hv => ?_)
    (fun h1 h2 h3 h4 h5 h6 h7 h8 h9 h10 => ?_)
  · exact State.writeByte_ignored _ x v (h.imp_left And.symm)
  · exact State.writeByte_ramEnable _ v hc h
  · exact State.writeByte_romBank _ v hc h1 h2
  · rw [State.writeByte_upperBits (withTable s table) v hc h1 h2, withTable_selectUpperBits]
  · exact State.writeByte_mode _ v hc h1 h2
  · exact State.writeByte_cartRam _ v he h1 h2
  · rw [State.writeByte_work (withTable s table) v h1 h2, withTable_pokeMem, withTable_pokeMem]
  · rw [State.writeByte_echo (withTable s table) v h1 h2, withTable_pokeMem, withTable_pokeMem]
  · rw [State.writeByte_serial (withTable s table) v h, withTable_pokeMem, withTable_serialHook, h]
  · exact State.writeByte_div _ v h
  · rw [State.writeByte_dma (withTable s table) v h, withTable_pokeMem, withTable_oamDma, h]
  · rw [State.writeByte_unmap (withTable s table) v h1 h2 hv, withTable_pokeMem, withTable_bootUnmap]
  · by_cases hhigh : 0xFF4C ≤ x.toNat ∧ x.toNat ≤ 0xFF7F
    · exact State.writeByte_noUnmap _ v hhigh.1 hhigh.2 (fun hv => h10 ⟨hhigh.1, hhigh.2, hv⟩)
    · exact State.writeByte_plain _ v (by omega)

theorem withTable_stored (l : List (Word × Byte)) : stored l (withTable s table) = withTable (stored l s) table := by
  induction l generalizing s with
  | nil => rfl
  | cons p l ih => exact (congrArg (stored l) (withTable_writeByte s table p.1 p.2)).trans (ih _)

theorem storesOf_withTable (i : Instr) : storesOf i (withTable s table) = storesOf i s := by
  cases i <;> rfl

end

end Sys2Proof.Statements
end

section
/-! What a row of the opcode table does: its stores, an update of the CPU half, and its cost. -/

namespace Sys2Proof.Statements

open Sys2Proof.Machine

/-- `c` leaves the cycle delta and the fault alone and does not look at the cycle table. -/
structure CpuUpdate (c : State → State) : Prop where
  table : ∀ s table, c (withTable s table) = withTable (c s) table
  delta : ∀ s, (c s).stepCycles = s.stepCycles
  fault : ∀ s, (c s).fault = s.fault

/-- `f` makes the stores of the row `i`, and gives the CPU half the values of `c`. -/
structure Performs (i : Instr) (f c : State → State) : Prop where
  update : CpuUpdate c
  eq : ∀ s, f s = (stored (storesOf i s) s).withCpu (c s)

/-- The row performs an operation and charges at least 4 cycles for it. -/
def Charges (i : Instr) : Prop :=
  ∃ (f c : State → State) (k : State → CostKey) (n : State → Nat),
    (∀ s, exec i s = .next ((f s).spend (k s) (n s)) ∧ 4 ≤ n s) ∧ Performs i f c

section
variable {i : Instr} {f c : State → State}

theorem stored_withCpu (l : List (Word × Byte)) (s c : State) : stored l (s.withCpu c) = (stored l s).withCpu c :=
  State.withCpu_applyStores s c l

/-- An update of the CPU half alone. -/
theorem performs_cpu (hf : CpuUpdate f) (hcpu : ∀ s, f s = s.withCpu (f s)) (hstores : ∀ s, storesOf i s = []) : Performs i f f :=
  ⟨hf, fun s => by rw [hstores]; exact hcpu s⟩

/-- Stores alone. -/
theorem performs_stores (h : ∀ s, f s = stored (storesOf i s) s) : Performs i f id :=
  ⟨⟨fun _ _ => rfl, fun _ => rfl, fun _ => rfl⟩, fun s => (h s).trans (stored_withCpu _ s s)⟩

/-- One store, with the address and the byte as the model computes them. -/
theorem performs_store {x x' : State → Word} {v v' : State → Byte} (hx : ∀ s, x' s = x s) (hv : ∀ s, v' s = v s)
    (hstores : ∀ s, storesOf i s = [(x' s, v' s)]) : Performs i (fun s => s.writeByte (x s) (v s)) id :=
  performs_stores fun s => by rw [hstores, hx, hv]; rfl

/-- A store to HL after an update of the CPU half. -/
theorem performs_cpuThenStore (hc : CpuUpdate c) {v v' : State → Byte} (hv : ∀ s, v' s = v s)
    (hf : ∀ s, f s = (s.withCpu (c s)).writeByte s.hl (v s)) (hstores : ∀ s, storesOf i s = [(hlOf s, v' s)]) : Performs i f c := by
  refine ⟨hc, fun s => ?_⟩
  rw [hf, hstores, hlOf_eq_hl, hv]
  exact State.withCpu_writeByte s (c s) s.hl (v s)

/-- The CB shifts of the byte at HL. -/
theorem performs_shiftHLMem {op : ShiftOp}
    (hstores : ∀ s, storesOf i s = [(hlOf s, (shifted op (s.readByte (hlOf s)) (cOf s)).1)]) :
    Performs i (fun s => s.shiftHLMem op) (fun s => s.shiftFlags op s.readHL) := by
  refine performs_cpuThenStore ⟨fun _ _ => rfl, fun _ => rfl, fun _ => rfl⟩ (fun s => ?_) (fun _ => rfl) hstores
  rw [hlOf_eq_hl]
  exact shifted_fst_eq_shiftResult op _ _

/-- A store to HL before an update of HL. -/
theorem performs_storeThenHL {hl' : State → Word} (hhl' : ∀ s table, hl' (withTable s table) = hl' s)
    (hstores : ∀ s, storesOf i s = [(hlOf s, s.a)]) :
    Performs i (fun s => (s.writeHL s.a).setPair .hl (hl' s)) (fun s => s.setPair .hl (hl' s)) := by
  refine ⟨⟨fun s table => ?_, fun _ => rfl, fun _ => rfl⟩, fun s => ?_⟩
  · exact congrArg (fun x => (withTable s table).setPair .hl x) (hhl' s table)
  · rw [hstores, hlOf_eq_hl]
    exact congrArg (fun t : State => t.setPair .hl (hl' s)) (State.withCpu_writeByte s s s.hl s.a)

theorem pushStores_eq (s : State) (v : Word) : pushStores s v = [(s.sp - 2 + 1, hiByte v), (s.sp - 2, loByte v)] := by
  rw [pushStores, hiOf_eq_hiByte, loOf_eq_loByte, show s.sp - 1 = s.sp - 2 + 1 by bv_omega]

theorem push_eq_stored (s : State) (v : Word) : s.push v = (stored (pushStores s v) s).withCpu { s with sp := s.sp - 2 } := by
  rw [pushStores_eq]
  exact s.push_eq v

theorem callTo_eq_stored (s : State) (target : Word) :
    s.callTo target = (stored (pushStores s s.pc) s).withCpu { s with sp := s.sp - 2, pc := target } :=
  congrArg (fun t : State => t.jumpTo target) (push_eq_stored s s.pc)

theorem performs_push {q : StackPair} (hstores : ∀ s, storesOf i s = pushStores s (getStack s q)) :
    Performs i (fun s => s.push (s.stackPair q)) (fun s => { s with sp := s.sp - 2 }) := by
  refine ⟨⟨fun _ _ => rfl, fun _ => rfl, fun _ => rfl⟩, fun s => ?_⟩
  rw [hstores, getStack_eq_stackPair]
  exact push_eq_stored s _

theorem cpuUpdate_callTo (target : Word) : CpuUpdate fun s => { s with sp := s.sp - 2, pc := target } :=
  ⟨fun _ _ => rfl, fun _ => rfl, fun _ => rfl⟩

theorem performs_callTo {target : Word} (hstores : ∀ s, storesOf i s = pushStores s s.pc) :
    Performs i (fun s => s.callTo target) (fun s => { s with sp := s.sp - 2, pc := target }) := by
  refine ⟨cpuUpdate_callTo target, fun s => ?_⟩
  rw [hstores]
  exact callTo_eq_stored s target

/-! ### Rows under a condition -/

theorem cond_withTable (s : State) (table : List (CostKey × Nat)) (cc : Cond) : (withTable s table).cond cc = s.cond cc := by
  cases cc <;> rfl

theorem CpuUpdate.ifCond (hc : CpuUpdate c) (cc : Cond) : CpuUpdate fun s => if s.cond cc then c s else s := by
  refine ⟨fun s table => ?_, fun s => ?_, fun s => ?_⟩
  · simp only [cond_withTable]
    cases s.cond cc
    · rfl
    · exact hc.table s table
  · cases s.cond cc
    · rfl
    · exact hc.delta s
  · cases s.cond cc
    · rfl
    · exact hc.fault s

/-- An operation done if a condition holds, at one of two costs (R372, R375, R377, R379). -/
theorem charges_ifCond {cc : Cond} {op : Byte} {nt t : Nat} (hnt : 4 ≤ nt) (ht : 4 ≤ t) (hc : CpuUpdate c)
    (htaken : ∀ s, s.cond cc = true → f s = (stored (storesOf i s) s).withCpu (c s))
    (hstores : ∀ s, s.cond cc = false → storesOf i s = [])
    (hexec : ∀ s, exec i s = .next (if s.cond cc then (f s).spend (.taken op) t else s.spend (.base op) nt)) : Charges i := by
  refine ⟨fun s => if s.cond cc then f s else s, fun s => if s.cond cc then c s else s,
    fun s => if s.cond cc then .taken op else .base op, fun s => if s.cond cc then t else nt,
    fun s => ?_, hc.ifCond cc, fun s => ?_⟩
  · rw [hexec]
    dsimp only
    cases s.cond cc
    · exact ⟨rfl, hnt⟩
    · exact ⟨rfl, ht⟩
  · cases hcond : s.cond cc
    · rw [hstores s hcond]
      rfl
    · exact htaken s hcond

theorem charges_jumpIf {cc : Cond} {target : State → Word} {op : Byte} {nt t : Nat} (hnt : 4 ≤ nt) (ht : 4 ≤ t)
    (htarget : ∀ s table, target (withTable s table) = target s) (hstores : ∀ s, storesOf i s = [])
    (hexec : ∀ s, exec i s = .next (s.jumpIf cc (target s) op nt t)) : Charges i := by
  refine charges_ifCond (c := fun s => s.jumpTo (target s)) (f := fun s => s.jumpTo (target s)) hnt ht
    ⟨fun s table => ?_, fun _ => rfl, fun _ => rfl⟩ (fun s _ => ?_) (fun s _ => hstores s) hexec
  · exact congrArg (fun x => (withTable s table).jumpTo x) (htarget s table)
  · rw [hstores]
    rfl

theorem charges_callIf {cc : Cond} {target : Word} {op : Byte} {nt t : Nat} (hnt : 4 ≤ nt) (ht : 4 ≤ t)
    (hstores : ∀ s, storesOf i s = if condHolds s cc then pushStores s s.pc else [])
    (hexec : ∀ s, exec i s = .next (s.callIf cc target op nt t)) : Charges i := by
  simp only [condHolds_eq_cond] at hstores
  refine charges_ifCond (f := fun s => s.callTo target) hnt ht (cpuUpdate_callTo target) (fun s hcond => ?_)
    (fun s hcond => ?_) hexec
  · rw [hstores, if_pos hcond]
    exact callTo_eq_stored s target
  · rw [hstores, if_neg (ne_true_of_eq_false hcond)]

theorem charges_returnIf {cc : Cond} {op : Byte} {nt t : Nat} (hnt : 4 ≤ nt) (ht : 4 ≤ t) (hstores : ∀ s, storesOf i s = [])
    (hexec : ∀ s, exec i s = .next (s.returnIf cc op nt t)) : Charges i := by
  refine charges_ifCond (c := State.returnFromCall) (f := State.returnFromCall) hnt ht
    ⟨fun _ _ => rfl, fun _ => rfl, fun _ => rfl⟩ (fun s _ => ?_) (fun s _ => hstores s) hexec
  rw [hstores]
  rfl

end

/-! ### Every row -/

theorem bitCleared_eq_clearBit_of_lt (v : Byte) {b : Nat} (h : b < 8) : bitCleared v b = clearBit v b :=
  bitCleared_eq_clearBit v ⟨b, h⟩

theorem bitSet_eq_setBit_of_lt (v : Byte) {b : Nat} (h : b < 8) : bitSet v b = setBit v b :=
  bitSet_eq_setBit v ⟨b, h⟩

/-- The row's first byte is the escape (R169). -/
def inCbMap (i : Instr) : Bool := (encode i).head? == some 0xCB

/-- A row of the CB map after the shifts: BIT, RES or SET. -/
def isBitRow (i : Instr) : Bool := inCbMap i && Nat.ble 0x40 ((encode i).getD 1 0).toNat

/-- The shifts of the CB map. -/
theorem charges_of_shift (i : Instr) (hwf : WellFormed i = true) (hcb : inCbMap i = true) (hbit : isBitRow i = false) : Charges i := by
  cases i
  case prefix_CB => exact absurd hwf Bool.false_ne_true
  all_goals try exact absurd hcb Bool.false_ne_true
  all_goals try exact absurd hbit.symm Bool.false_ne_true
  case rlc_atHL | rrc_atHL | rl_atHL | rr_atHL | sla_atHL | sra_atHL | swap_atHL | srl_atHL =>
    exact ⟨_, _, _, _, fun _ => ⟨rfl, by decide⟩, performs_shiftHLMem fun _ => rfl⟩
  all_goals
    exact ⟨_, _, _, _, fun _ => ⟨rfl, by decide⟩, performs_cpu ⟨fun _ _ => rfl, fun _ => rfl, fun _ => rfl⟩ (fun _ => rfl)
      (fun _ => rfl)⟩

/-- BIT, RES and SET. -/
theorem charges_of_bit (i : Instr) (hwf : WellFormed i = true) (hbit : isBitRow i = true) : Charges i := by
  cases i
  case prefix_CB => exact absurd hwf Bool.false_ne_true
  all_goals try exact absurd hbit Bool.false_ne_true
  case res_0_atHL | res_1_atHL | res_2_atHL | res_3_atHL | res_4_atHL | res_5_atHL | res_6_atHL | res_7_atHL =>
    refine ⟨_, _, _, _, fun _ => ⟨rfl, by decide⟩, performs_store hlOf_eq_hl (fun s => ?_) (fun _ => rfl)⟩
    rw [hlOf_eq_hl]
    exact bitCleared_eq_clearBit_of_lt _ (by decide)
  case set_0_atHL | set_1_atHL | set_2_atHL | set_3_atHL | set_4_atHL | set_5_atHL | set_6_atHL | set_7_atHL =>
    refine ⟨_, _, _, _, fun _ => ⟨rfl, by decide⟩, performs_store hlOf_eq_hl (fun s => ?_) (fun _ => rfl)⟩
    rw [hlOf_eq_hl]
    exact bitSet_eq_setBit_of_lt _ (by decide)
  all_goals
    exact ⟨_, _, _, _, fun _ => ⟨rfl, by decide⟩, performs_cpu ⟨fun _ _ => rfl, fun _ => rfl, fun _ => rfl⟩ (fun _ => rfl)
      (fun _ => rfl)⟩

/-- Every well-formed row performs its operation for its cost, or is an illegal one. -/
theorem charges_or_illegal (i : Instr) (hwf : WellFormed i = true) :
    Charges i ∨ ∃ o, ∀ s, exec i s = .next (s.raiseUnimplemented o) ∧ storesOf i s = [] := by
  by_cases hbit : isBitRow i = true
  · exact .inl (charges_of_bit i hwf hbit)
  by_cases hcb : inCbMap i = true
  · exact .inl (charges_of_shift i hwf hcb (eq_false_of_ne_true hbit))
  clear hbit
  cases i
  all_goals try exact absurd rfl hcb
  case illegal_D3 | illegal_DB | illegal_DD | illegal_E3 | illegal_E4 | illegal_EB | illegal_EC | illegal_ED | illegal_F4 |
    illegal_FC | illegal_FD =>
    exact .inr ⟨_, fun _ => ⟨rfl, rfl⟩⟩
  all_goals refine .inl ?_
  case ld_atHL_n | ld_atHL_B | ld_atHL_C | ld_atHL_D | ld_atHL_E | ld_atHL_H | ld_atHL_L | ld_atHL_A =>
    exact ⟨_, _, _, _, fun _ => ⟨rfl, by decide⟩, performs_store hlOf_eq_hl (fun _ => rfl) (fun _ => rfl)⟩
  case ld_atBC_A => exact ⟨_, _, _, _, fun _ => ⟨rfl, by decide⟩, performs_store bcOf_eq_bc (fun _ => rfl) (fun _ => rfl)⟩
  case ld_atDE_A => exact ⟨_, _, _, _, fun _ => ⟨rfl, by decide⟩, performs_store deOf_eq_de (fun _ => rfl) (fun _ => rfl)⟩
  case ld_atnn_A => exact ⟨_, _, _, _, fun _ => ⟨rfl, by decide⟩, performs_store (fun _ => rfl) (fun _ => rfl) (fun _ => rfl)⟩
  case ldh_atn_A | ld_atC_A =>
    exact ⟨_, _, _, _, fun _ => ⟨rfl, by decide⟩, performs_store (fun _ => page_eq_highPage _) (fun _ => rfl) (fun _ => rfl)⟩
  case ld_atHLi_A | ld_atHLd_A =>
    exact ⟨_, _, _, _, fun _ => ⟨rfl, by decide⟩, performs_storeThenHL (fun _ _ => rfl) (fun _ => rfl)⟩
  case ld_atnn_SP nn =>
    refine ⟨_, _, _, _, fun _ => ⟨rfl, by decide⟩, performs_stores fun s => ?_⟩
    change _ = stored [(nn, loOf s.sp), (nn + 1, hiOf s.sp)] s
    rw [loOf_eq_loByte, hiOf_eq_hiByte]
    rfl
  case inc_atHL =>
    refine ⟨_, _, _, _, fun _ => ⟨rfl, by decide⟩, performs_cpuThenStore (c := fun s => s.incFlags s.readHL)
      ⟨fun _ _ => rfl, fun _ => rfl, fun _ => rfl⟩ (fun s => ?_) (fun _ => rfl) (fun _ => rfl)⟩
    rw [hlOf_eq_hl]
    rfl
  case dec_atHL =>
    refine ⟨_, _, _, _, fun _ => ⟨rfl, by decide⟩, performs_cpuThenStore (c := fun s => s.decFlags s.readHL)
      ⟨fun _ _ => rfl, fun _ => rfl, fun _ => rfl⟩ (fun s => ?_) (fun _ => rfl) (fun _ => rfl)⟩
    rw [hlOf_eq_hl]
    rfl
  case push_BC | push_DE | push_HL | push_AF =>
    exact ⟨_, _, _, _, fun _ => ⟨rfl, by decide⟩, performs_push fun _ => rfl⟩
  case call_nn | rst_00H | rst_08H | rst_10H | rst_18H | rst_20H | rst_28H | rst_30H | rst_38H =>
    exact ⟨_, _, _, _, fun _ => ⟨rfl, by decide⟩, performs_callTo fun _ => rfl⟩
  case call_NZ_nn | call_Z_nn | call_NC_nn | call_C_nn =>
    exact charges_callIf (by decide) (by decide) (fun _ => rfl) (fun _ => rfl)
  case jp_NZ_nn | jp_Z_nn | jp_NC_nn | jp_C_nn | jr_NZ_e | jr_Z_e | jr_NC_e | jr_C_e =>
    exact charges_jumpIf (by decide) (by decide) (fun _ _ => rfl) (fun _ => rfl) (fun _ => rfl)
  case ret_NZ | ret_Z | ret_NC | ret_C =>
    exact charges_returnIf (by decide) (by decide) (fun _ => rfl) (fun _ => rfl)
  all_goals
    exact ⟨_, _, _, _, fun _ => ⟨rfl, by decide⟩, performs_cpu ⟨fun _ _ => rfl, fun _ => rfl, fun _ => rfl⟩ (fun _ => rfl)
      (fun _ => rfl)⟩

end Sys2Proof.Statements
end

section
/-! Where a store shows, and what no store changes (R100). -/

namespace Sys2Proof.Statements

open Sys2Proof.Machine

/-! ### Where a store shows -/

theorem reaches_congr {s t : State} (h : t.cartType = s.cartType) : reaches t = reaches s := by
  unfold reaches
  rw [h]

/-- A bus write leaves every read that it does not reach. -/
theorem readByte_writeByte_of_not_reaches {s : State} {x y : Word} {v : Byte} (h : ¬ reaches s x v y) :
    (s.writeByte x v).readByte y = s.readByte y := by
  have hpoke : ∀ a w, ¬ y.toNat = a → (s.pokeMem a w).readByte y = s.readByte y := fun a w hy =>
    (onlyMem_pokeMem (A := fun z => z = a) s a w rfl).readByte hy
  refine State.writeByte_elim (P := fun t => t.readByte y = s.readByte y) s x v (fun _ => rfl) (fun hx hc => ?_)
    (fun h1 h2 hc => ?_) (fun h1 h2 hc => ?_) (fun h1 h2 hc => ?_) (fun h1 h2 he => ?_) (fun h1 h2 => ?_) (fun h1 h2 => ?_)
    (fun hx => ?_) (fun hx => ?_) (fun hx => ?_) (fun h1 h2 hv => ?_) (fun h1 h2 h3 h4 h5 h6 h7 h8 h9 h10 => ?_) <;>
    simp (disch := omega) only [reaches, if_pos, if_neg] at h
  · exact State.readByte_congr rfl rfl (fun _ _ => rfl) (fun h1 h2 => absurd ⟨hc, .inl ⟨hx, h1, h2⟩⟩ h)
  · exact State.readByte_congr rfl rfl (fun h3 h4 => absurd ⟨hc, .inr (.inl ⟨h1, h2, h3, h4⟩)⟩ h) (fun _ _ => ⟨rfl, rfl⟩)
  · unfold State.selectUpperBits
    split
    · exact State.readByte_congr rfl rfl (fun _ _ => rfl) (fun h3 h4 => absurd ⟨hc, .inr (.inr ⟨h1, h2, .inr ⟨h3, h4⟩⟩)⟩ h)
    · exact State.readByte_congr rfl rfl (fun h3 h4 => absurd ⟨hc, .inr (.inr ⟨h1, h2, .inl ⟨h3, h4⟩⟩)⟩ h) (fun _ _ => ⟨rfl, rfl⟩)
  · exact State.readByte_congr rfl rfl (fun _ _ => rfl) (fun _ _ => ⟨rfl, rfl⟩)
  · refine State.readByte_congr rfl rfl (fun _ _ => rfl) (fun h3 h4 => ?_)
    exact ⟨rfl, (s.ramAt_pokeRam _ _ v).trans (if_neg (s.ramOffset_ne h3 h1 h))⟩
  · obtain ⟨hx, hecho⟩ := not_or.1 h
    exact (onlyMem_pokeMem (A := fun z => z = x.toNat + 0x2000) _ _ v rfl).readByte hecho |>.trans (hpoke _ v hx)
  · obtain ⟨hx, hwork⟩ := not_or.1 h
    exact (onlyMem_pokeMem (A := fun z => z = x.toNat - 0x2000) _ _ v rfl).readByte hwork |>.trans (hpoke _ v hx)
  · have hhook : ∀ t : State, (t.serialHook v).readByte y = t.readByte y := fun t => by
      unfold State.serialHook
      split
      · exact State.readByte_congr rfl rfl (fun _ _ => rfl) (fun _ _ => ⟨rfl, rfl⟩)
      · rfl
    rw [hhook, hpoke _ _ h]
  · exact hpoke _ _ (hx ▸ h)
  · obtain ⟨hFF46, hOAM⟩ := not_or.1 h
    exact ((onlyMem_oamDma _ v).readByte hOAM).trans (hpoke _ v (hx ▸ hFF46))
  · obtain ⟨hx, hlow⟩ := not_or.1 h
    have hboot : ({ s.pokeMem x.toNat v with bootMapped := false } : State).readByte y = (s.pokeMem x.toNat v).readByte y :=
      State.readByte_congr rfl rfl (fun _ _ => rfl) (fun _ _ => ⟨rfl, rfl⟩)
    exact (((onlyMem_bootUnmap _).readByte fun hy => hlow ⟨hv, hy⟩).trans hboot).trans (hpoke _ v hx)
  · by_cases hhigh : 0xFF4C ≤ x.toNat ∧ x.toNat ≤ 0xFF7F
    · rw [if_pos hhigh] at h
      exact hpoke _ v (not_or.1 h).1
    · rw [if_neg hhigh] at h
      exact hpoke _ v h

theorem readByte_stored {l : List (Word × Byte)} {s : State} {y : Word} (h : ∀ p ∈ l, ¬ reaches s p.1 p.2 y) :
    (stored l s).readByte y = s.readByte y := by
  induction l generalizing s with
  | nil => rfl
  | cons p l ih =>
    obtain ⟨hp, hl⟩ := List.forall_mem_cons.1 h
    refine (ih fun q hq => ?_).trans (readByte_writeByte_of_not_reaches hp)
    rw [reaches_congr (s.writeByte_cartType p.1 p.2)]
    exact hl q hq

/-! ### Every row, from its stores -/

/-- Outside the CPU half a row leaves what its stores leave. -/
theorem exec_onlyStores (i : Instr) (s : State) (hwf : WellFormed i = true) :
    ∃ t, exec i s = .next t ∧ t = (stored (storesOf i s) s).withCpu t := by
  obtain ⟨f, c, k, n, hexec, hperforms⟩ | ⟨o, hexec⟩ := charges_or_illegal i hwf
  · refine ⟨_, (hexec s).1, ?_⟩
    rw [hperforms.eq]
    rfl
  · refine ⟨_, (hexec s).1, ?_⟩
    rw [(hexec s).2]
    rfl

theorem sameOutsideCpu_withCpu (s c : State) : SameOutsideCpu (s.withCpu c) s :=
  ⟨rfl, rfl, rfl, rfl, rfl, rfl, rfl, rfl, rfl, rfl, rfl, rfl, rfl, rfl, rfl, rfl, rfl, rfl, rfl⟩

theorem exec_prefixRow (s : State) (op2 : Byte) : exec (.prefix_CB op2) s = exec (mapCell cbMap op2) s :=
  (exec_cbCell s op2).symm

/-- With another cycle table a row answers the same but for that table and the delta. -/
theorem exec_withTable (i : Instr) (s : State) (table : List (CostKey × Nat)) (hwf : WellFormed i = true) :
    ∃ t n, exec i s = .next t ∧ exec i (withTable s table) = .next { withTable t table with stepCycles := n } := by
  obtain ⟨f, c, k, n, hexec, hperforms⟩ | ⟨o, hexec⟩ := charges_or_illegal i hwf
  · have hf : f (withTable s table) = withTable (f s) table := by
      rw [hperforms.eq, hperforms.eq, storesOf_withTable, withTable_stored, hperforms.update.table]
      rfl
    refine ⟨_, ((f (withTable s table)).spend (k (withTable s table)) (n (withTable s table))).stepCycles, (hexec s).1, ?_⟩
    rw [(hexec _).1, hf]
    rfl
  · exact ⟨_, _, (hexec s).1, (hexec _).1⟩

end Sys2Proof.Statements
end

section
/-! The obligations about every row. -/

namespace Sys2Proof.Proofs

open Sys2Proof.Machine Sys2Proof.Statements

/-- Settles O44: a row is its stores and an update of the CPU half. -/
theorem instructionsOnlyStore : Obligations.InstructionsOnlyStore := by
  intro i s hwf
  obtain ⟨t, hexec, ht⟩ := exec_onlyStores i s hwf
  refine ⟨t, hexec, ?_⟩
  rw [ht]
  exact sameOutsideCpu_withCpu _ t

/-- Settles O45: a read does not look at the CPU half, and each store leaves what it does not reach. -/
theorem memoryFrame : Obligations.MemoryFrame := by
  intro i s t y hwf hexec hreach
  obtain ⟨u, hexec', hu⟩ := exec_onlyStores i s hwf
  cases hexec.symm.trans hexec'
  rw [hu, State.withCpu_readByte]
  exact readByte_stored hreach

/-- Settles O60: the table is looked up in the costs only; the escape row runs a row of the CB map. -/
theorem cycleTableOnlyCosts : Obligations.CycleTableOnlyCosts := by
  refine ⟨fun c k n h => ?_, fun c k n m l r htable h => ?_, fun i s table => ?_⟩
  · exact cycleCost_of_unnamed n (List.lookup_eq_none_iff.2 fun p hp => bne_iff_ne.2 (h p hp).symm)
  · refine cycleCost_of_named n ?_
    rw [htable, List.lookup_append, List.lookup_eq_none_iff.2 fun p hp => bne_iff_ne.2 (h p hp).symm]
    simp
  · by_cases hwf : WellFormed i = true
    · exact exec_withTable i s table hwf
    · cases i
      case prefix_CB op2 =>
        obtain ⟨hwf, -⟩ := encode_cbCell op2
        rw [exec_prefixRow, exec_prefixRow]
        exact exec_withTable _ s table hwf
      all_goals exact absurd rfl hwf

end Sys2Proof.Proofs
end

/-! ## Proofs about the step (60_exceptions.md R500 to R516; 10_state.md) -/

section
/-! What a step does before its devices run: raw writes of IF, bus writes, and an update of the CPU half (R500, R513, R514). -/

namespace Sys2Proof.Machine

/-! ### Bus writes clear `bootMapped` at most -/

theorem State.bootUnmap_bootMapped (s : State) : s.bootUnmap.bootMapped = false := rfl

theorem State.bootMapped_of_writeByte {s : State} {x : Word} {v : Byte} :
    (s.writeByte x v).bootMapped = true → s.bootMapped = true := by
  refine State.writeByte_elim (P := fun t => t.bootMapped = true → s.bootMapped = true) s x v (fun _ => id) (fun _ _ => id)
    (fun _ _ _ => id) (fun _ _ _ => ?_) (fun _ _ _ => id) (fun _ _ _ => id) (fun _ _ => ?_) (fun _ _ => ?_) (fun _ => ?_)
    (fun _ => id) (fun _ => ?_) (fun _ _ _ => ?_) (fun _ _ _ _ _ _ _ _ _ _ => id)
  · unfold State.selectUpperBits
    split <;> exact id
  · rw [State.pokeMem_bootMapped, State.pokeMem_bootMapped]
    exact id
  · rw [State.pokeMem_bootMapped, State.pokeMem_bootMapped]
    exact id
  · unfold State.serialHook
    split <;> exact id
  · rw [(onlyMem_oamDma _ v).rest]
    exact id
  · rw [State.bootUnmap_bootMapped]
    exact fun h => absurd h Bool.false_ne_true

theorem State.bootMapped_of_applyStores {s : State} {l : List (Word × Byte)} (h : (s.applyStores l).bootMapped = true) :
    s.bootMapped = true := by
  induction l generalizing s with
  | nil => exact h
  | cons p l ih => exact State.bootMapped_of_writeByte (ih h)

/-! ### From the start of a step to its devices -/

/-- `t` is `s` after raw writes of IF and bus writes, with another CPU half. -/
def BusReach (s t : State) : Prop := ∃ m l, OnlyMem (fun x => x = 0xFF0F) s m ∧ t = (m.applyStores l).withCpu t

theorem BusReach.cpu {s t : State} (h : t = s.withCpu t) : BusReach s t := ⟨s, [], OnlyMem.refl _ s, h⟩

theorem BusReach.of_withCpu {s c t : State} (h : BusReach (s.withCpu c) t) : BusReach s t := by
  obtain ⟨m, l, hm, ht⟩ := h
  refine ⟨m.withCpu s, l, ⟨?_, hm.bytes, hm.wf⟩, ?_⟩
  · rw [hm.rest]
    rfl
  · rw [State.withCpu_applyStores, State.withCpu_withCpu]
    exact ht

theorem BusReach.trans_effect {n : Nat} {s t u : State} (h : BusReach s t) (k : Effect n t u) : BusReach s u := by
  obtain ⟨m, l, hm, ht⟩ := h
  obtain ⟨l', hu⟩ := k.bus
  refine ⟨m, l ++ l', hm, ?_⟩
  rw [ht, State.withCpu_applyStores, ← State.applyStores_append, State.withCpu_withCpu] at hu
  exact hu

theorem BusReach.busInv {s t : State} (h : BusReach s t) (hs : s.BusInv) : t.BusInv := by
  obtain ⟨m, l, hm, ht⟩ := h
  rw [ht]
  exact ((hs.onlyMem hm (by omega)).applyStores l).withCpu t

theorem BusReach.busOnly {s t : State} (h : BusReach s t) : BusOnly (s.withCpu t) t := by
  obtain ⟨m, l, hm, ht⟩ := h
  have hbus : BusOnly s (m.applyStores l) := hm.busOnly.trans (m.applyStores_busOnly l)
  rw [ht]
  exact congrArg (State.withCpu · t) hbus

theorem BusReach.bootMapped {s t : State} (h : BusReach s t) (ht : t.bootMapped = true) : s.bootMapped = true := by
  obtain ⟨m, l, hm, ht'⟩ := h
  rw [ht'] at ht
  have := State.bootMapped_of_applyStores ht
  rwa [hm.rest] at this

/-- What the interrupt service can do. -/
structure ServiceEffect (s t : State) : Prop where
  bus : BusReach s t
  f : t.f = s.f
  fault : t.fault = s.fault
  cycles : t.stepCycles ≤ s.stepCycles + 24

theorem busReach_dispatchInterrupt (s : State) (k : Nat) (wasHalted : Bool) : BusReach s (s.dispatchInterrupt k wasHalted) := by
  rw [State.dispatchInterrupt_eq]
  exact ⟨_, _, onlyMem_pokeMem s 0xFF0F _ rfl, rfl⟩

theorem State.dispatchInterrupt_cpu (s : State) (k : Nat) (wasHalted : Bool) :
    (s.dispatchInterrupt k wasHalted).f = s.f ∧ (s.dispatchInterrupt k wasHalted).fault = s.fault ∧
    (s.dispatchInterrupt k wasHalted).stepCycles = s.stepCycles + if wasHalted then 24 else 20 := by
  rw [State.dispatchInterrupt_eq]
  exact ⟨rfl, rfl, rfl⟩

theorem serviceEffect_service (s : State) : ServiceEffect s s.service := by
  obtain ⟨-, h⟩ | ⟨-, -, h⟩ | ⟨-, -, h⟩ := s.service_cases <;> rw [h]
  · exact ⟨.cpu rfl, rfl, rfl, Nat.le_add_right _ _⟩
  · exact ⟨.cpu rfl, rfl, rfl, Nat.le_add_right _ _⟩
  · obtain ⟨hf, hfault, hcycles⟩ :=
      ({ s with halted := false } : State).dispatchInterrupt_cpu (lowestSource s.pendingIrqs) s.halted
    refine ⟨.of_withCpu (c := { s with halted := false }) (busReach_dispatchInterrupt _ _ _), hf, hfault, ?_⟩
    rw [hcycles]
    split <;> simp

end Sys2Proof.Machine
end

section
/-! A step that answers a next state: what was done before the devices, and the devices. -/

namespace Sys2Proof.Machine

open Sys2Proof.Statements

theorem State.fetchInstr_wellFormed (u : State) : WellFormed u.fetchInstr = true := (encode_decodeBytes _ _ _).1

/-- A row that raises no fault costs at least 4 cycles. -/
theorem exec_cost {i : Instr} {s t : State} (hwf : WellFormed i = true) (hexec : exec i s = .next t) (hfault : t.fault = none)
    (htable : s.cfg.cycleTable = []) : s.stepCycles + 4 ≤ t.stepCycles := by
  obtain ⟨f, c, k, n, hcharge, hperforms⟩ | ⟨o, hillegal⟩ := charges_or_illegal i hwf
  · obtain ⟨hnext, hn⟩ := hcharge s
    cases hexec.symm.trans hnext
    have hcfg : (f s).cfg = s.cfg := by
      rw [hperforms.eq]
      exact (congrArg State.cfg (s.applyStores_busOnly (storesOf i s))).trans rfl
    have hdelta : (f s).stepCycles = s.stepCycles := by
      rw [hperforms.eq]
      exact hperforms.update.delta s
    have hcost : cycleCost (f s).cfg (k s) (n s) = n s := cycleCost_of_unnamed _ (by rw [hcfg, htable]; rfl)
    change s.stepCycles + 4 ≤ (f s).stepCycles + cycleCost (f s).cfg (k s) (n s)
    omega
  · cases hexec.symm.trans (hillegal s).1
    cases hfault

/-- From the start `s` of a step to the state `w` in which the devices would run; `v` is `w` but for the count of instructions. -/
structure BeforeDevices (s v w : State) : Prop where
  bus : BusReach s v
  rest : w = { v with instructionsExecuted := w.instructionsExecuted }
  flags : s.FlagsLowZero → v.FlagsLowZero
  counted : s.instructionsExecuted ≤ w.instructionsExecuted ∧ w.instructionsExecuted ≤ s.instructionsExecuted + 1
  cycles : s.cfg.cycleTable = [] → v.stepCycles ≤ 48 ∧ (v.fault = none → 4 ≤ v.stepCycles)

theorem BusReach.instructionsExecuted {s t : State} (h : BusReach s t) : t.instructionsExecuted = s.instructionsExecuted :=
  (congrArg State.instructionsExecuted h.busOnly).trans rfl

theorem BusReach.cfg {s t : State} (h : BusReach s t) : t.cfg = s.cfg := (congrArg State.cfg h.busOnly).trans rfl

/-- The service, with which a step begins (R500 step 1). -/
theorem serviceEffect_serviced (s : State) : ServiceEffect { s with stepCycles := 0 } (serviced s) ∧ BusReach s (serviced s) :=
  have h := serviceEffect_service { s with stepCycles := 0 }
  ⟨h, .of_withCpu (c := { s with stepCycles := 0 }) h.bus⟩

/-- A halted step: 4 cycles after the service. -/
theorem beforeDevices_idle (s : State) : BeforeDevices s ((serviced s).addCycles 4) ((serviced s).addCycles 4) := by
  obtain ⟨hservice, hbus⟩ := serviceEffect_serviced s
  have hidle : Effect 4 (serviced s) ((serviced s).addCycles 4) := effect_addCycles _ 4
  have hcount := (hbus.trans_effect hidle).instructionsExecuted
  refine ⟨hbus.trans_effect hidle, rfl, fun h => ?_, ?_, fun _ => ⟨?_, fun _ => Nat.le_add_left _ _⟩⟩
  · exact hidle.flags (by rw [State.FlagsLowZero, hservice.f]; exact h)
  · omega
  · have := hservice.cycles
    change (serviced s).stepCycles + 4 ≤ 48
    dsimp only at this
    omega

/-- A step that ran an instruction: `v` is what it answered, and the EI delay writes two latches. -/
theorem beforeDevices_run {s t : State} (p d : Bool)
    (hexec : exec (serviced s).fetchInstr (serviced s).pastInstr = .next t) :
    BeforeDevices s t t ∧ BeforeDevices s (t.applyEiDelay p d)
      { t.applyEiDelay p d with instructionsExecuted := (t.applyEiDelay p d).instructionsExecuted + 1 } := by
  obtain ⟨hservice, hbus⟩ := serviceEffect_serviced s
  obtain ⟨t', hexec', heffect⟩ := exec_effect (serviced s).fetchInstr (serviced s).pastInstr
  cases hexec.symm.trans hexec'
  have hpast : Effect 0 (serviced s) (serviced s).pastInstr := .cpu rfl id rfl
  have hrun : Effect 24 (serviced s) t := (hpast.trans heffect).mono (by decide)
  have hdelay : Effect 0 t (t.applyEiDelay p d) := effect_ite (.cpu rfl id rfl) (.refl t)
  have hcycles : (t.applyEiDelay p d).stepCycles = t.stepCycles ∧ (t.applyEiDelay p d).fault = t.fault := by
    unfold State.applyEiDelay
    split <;> exact ⟨rfl, rfl⟩
  have hflags : s.FlagsLowZero → t.FlagsLowZero := fun h => hrun.flags (by rw [State.FlagsLowZero, hservice.f]; exact h)
  have hcost : s.cfg.cycleTable = [] → t.stepCycles ≤ 48 ∧ (t.fault = none → 4 ≤ t.stepCycles) := fun htable => by
    have hsmall := hservice.cycles
    rw [← hbus.cfg] at htable
    have hlarge := hrun.cycles htable
    dsimp only at hsmall
    refine ⟨by omega, fun hfault => ?_⟩
    have := exec_cost (State.fetchInstr_wellFormed _) hexec hfault htable
    omega
  have hcount := (hbus.trans_effect hrun).instructionsExecuted
  have hcount' := ((hbus.trans_effect hrun).trans_effect hdelay).instructionsExecuted
  refine ⟨⟨hbus.trans_effect hrun, rfl, hflags, by omega, hcost⟩,
    (hbus.trans_effect hrun).trans_effect hdelay, rfl, fun h => hdelay.flags (hflags h), ?_, ?_⟩
  · dsimp only
    omega
  · rw [hcycles.1, hcycles.2]
    exact hcost

/-- Every step that answers a next state: the delta of a faulting step is dropped, every other goes to the devices. -/
theorem step_next {s t : State} (h : step s = .next t) :
    ∃ v w, BeforeDevices s v w ∧ (w.fault ≠ none ∧ t = { w with stepCycles := 0 } ∨ w.fault = none ∧ t = w.deviceStep) := by
  obtain ⟨r, -, hstep⟩ | ⟨-, -, hstep⟩ | ⟨u, hfault, -, rfl, -, hstep⟩ | ⟨u, v, hfault, -, rfl, -, hexec, hstep⟩ := step_cases s
  · cases h.symm.trans hstep
  · cases h.symm.trans hstep
  · cases h.symm.trans hstep
    obtain ⟨hservice, -⟩ := serviceEffect_serviced s
    exact ⟨_, _, beforeDevices_idle s, .inr ⟨hservice.fault.trans hfault, rfl⟩⟩
  · cases h.symm.trans hstep
    obtain ⟨hraised, hdone⟩ := beforeDevices_run (serviced s).imePending (isDi (serviced s).fetchInstr) hexec
    cases hv : v.fault with
    | some r => exact ⟨v, v, hraised, .inl ⟨by simp [hv], by simp [State.finishInstr, hv]⟩⟩
    | none =>
      refine ⟨_, _, hdone, .inr ⟨?_, by simp only [State.finishInstr, hv]; rfl⟩⟩
      unfold State.applyEiDelay
      split <;> exact hv

end Sys2Proof.Machine
end

section
/-! What the device phase keeps of the invariant (R64, R49, R547). -/

namespace Sys2Proof.Machine

open Sys2Proof.Statements

theorem rgbOf_legal (shade : Shade) : legalPixel (rgbOf shade) := .inr ⟨shade, rfl⟩

/-- A rendered line is 160 legal pixels; the others stay. -/
theorem State.FramebufferLegal.renderLine {s : State} (h : s.FramebufferLegal) (ly : Nat) : (s.renderLine ly).FramebufferLegal := by
  obtain ⟨hrows, hlegal⟩ := h
  refine ⟨List.length_set.trans hrows, fun row hrow => ?_⟩
  obtain hold | rfl := List.mem_or_eq_of_mem_set hrow
  · exact hlegal row hold
  · refine ⟨by simp, fun p hp => ?_⟩
    obtain ⟨x, -, rfl⟩ := List.mem_map.1 hp
    exact rgbOf_legal _

/-- What LcdUpdate leaves of the line, the accumulator and the picture (R540, R541). -/
structure LcdKeeps (s t : State) (d : Nat) : Prop where
  line : s.LineInRange → t.LineInRange
  acc : s.lcdAcc + d < 912 → t.lcdAcc < 456
  frame : s.FramebufferLegal → t.FramebufferLegal
  div : t.divAcc = s.divAcc

theorem lcdKeeps_lcdUpdate (s : State) (d : Nat) : LcdKeeps s (s.lcdUpdate d) d := by
  cases hon : ioBit s 0xFF40 7 with
  | false =>
    obtain ⟨hacc, hly, -, -, hrest⟩ := (Proofs.lcdDisabled s d).1 hon
    refine ⟨fun _ => ?_, fun _ => ?_, fun h => ?_, (congrArg State.divAcc hrest).trans rfl⟩
    · rw [State.LineInRange, hly]
      decide
    · rw [hacc]
      decide
    · rw [hrest]
      exact h
  | true =>
    obtain ⟨hacc, hly, -, -, hframe, -, -, -, hrest⟩ := Proofs.lcdLine s d hon
    simp only [decide_eq_true_eq] at hacc hly hframe
    refine ⟨fun h => ?_, fun h => ?_, fun h => ?_, (congrArg State.divAcc hrest).trans rfl⟩
    · unfold State.LineInRange at h ⊢
      rw [hly]
      split_ifs <;> omega
    · rw [hacc]
      split_ifs <;> omega
    · unfold State.FramebufferLegal
      rw [hframe]
      split
      · exact h.renderLine _
      · exact h

/-- The device phase keeps the bus half's invariant if it keeps LY a line number. -/
theorem DeviceEffect.busInv {s t : State} (h : DeviceEffect s t) (hs : s.BusInv) (hline : t.LineInRange) : t.BusInv := by
  have hbank : t.romBank = s.romBank := (congrArg State.romBank h.rest).trans rfl
  have htype : t.cartType = s.cartType := (congrArg State.cartType h.rest).trans rfl
  have henabled : t.ramEnabled = s.ramEnabled := (congrArg State.ramEnabled h.rest).trans rfl
  have hrom : t.rom = s.rom := (congrArg State.rom h.rest).trans rfl
  have hram : t.ram = s.ram := (congrArg State.ram h.rest).trans rfl
  refine ⟨⟨h.wf hs.memories.mem, by rw [hrom]; exact hs.memories.rom, by rw [hram]; exact hs.memories.ram⟩,
    fun a h1 h2 => ?_, ?_, ?_, hline⟩
  · rw [h.bytes a (by unfold deviceByte; omega), h.bytes (a + 0x2000) (by unfold deviceByte; omega)]
    exact hs.echo a h1 h2
  · unfold State.BankReachable
    rw [hbank]
    exact hs.bank
  · unfold State.CartridgeSupported
    rw [htype, henabled]
    exact hs.cartridge

/-- The device phase from a state with the bus half's invariant and a delta of at most 48. -/
theorem inv_deviceStep {s : State} (hbus : s.BusInv) (hflags : s.FlagsLowZero) (hframe : s.FramebufferLegal)
    (hacc : s.cfg.cycleTable = [] → s.lcdAcc < 456 ∧ s.stepCycles ≤ 48) : s.deviceStep.Inv := by
  let start : State := { s with cycleCount := s.cycleCount + s.stepCycles, stepCycles := 0 }
  obtain ⟨hdiv, -, -, -, hbytes, htimer⟩ := Proofs.timerUpdate start s.stepCycles
  have hlcd : LcdKeeps (start.timerUpdate s.stepCycles) s.deviceStep s.stepCycles := lcdKeeps_lcdUpdate _ _
  have heffect := deviceEffect_deviceStep s
  have hline : s.deviceStep.LineInRange := hlcd.line (by
    unfold State.LineInRange
    rw [hbytes 0xFF44 (by decide) (by decide) (by decide)]
    exact hbus.line)
  have hstart : start.BusInv :=
    ⟨⟨hbus.memories.mem, hbus.memories.rom, hbus.memories.ram⟩, hbus.echo, hbus.bank, hbus.cartridge, hbus.line⟩
  obtain ⟨hmemories, hecho, hbank, hcartridge, -⟩ := heffect.busInv hstart hline
  have hf : s.deviceStep.f = s.f := (congrArg State.f heffect.rest).trans rfl
  have hcfg : s.deviceStep.cfg = s.cfg := (congrArg State.cfg heffect.rest).trans rfl
  have hframe' : (start.timerUpdate s.stepCycles).FramebufferLegal := by
    rw [htimer]
    exact hframe
  have hacc' : (start.timerUpdate s.stepCycles).lcdAcc = s.lcdAcc := (congrArg State.lcdAcc htimer).trans rfl
  refine ⟨hmemories, hecho, ?_, hbank, hcartridge, hline, hlcd.frame hframe', ⟨?_, fun htable => ?_, s.deviceStep_counters.2⟩⟩
  · rw [State.FlagsLowZero, hf]
    exact hflags
  · rw [hlcd.div, hdiv]
    exact Nat.mod_lt _ (by decide)
  · rw [hcfg] at htable
    obtain ⟨hlt, hdelta⟩ := hacc htable
    exact hlcd.acc (by omega)

theorem State.Inv.busInv {s : State} (h : s.Inv) : s.BusInv := ⟨h.memories, h.echo, h.bank, h.cartridge, h.line⟩

/-- A step that answers a next state keeps the invariant. -/
theorem inv_step {s t : State} (hs : s.Inv) (hstep : step s = .next t) : t.Inv := by
  obtain ⟨v, w, ⟨hreach, hrest, hflags, -, hcycles⟩, hdone⟩ := step_next hstep
  obtain ⟨⟨hmem, hrom, hram⟩, hecho, hbank, hcartridge, hline⟩ := hreach.busInv hs.busInv
  have hbus := hreach.busOnly
  have hcfg := hreach.cfg
  have hframe : v.framebuffer = s.framebuffer := (congrArg State.framebuffer hbus).trans rfl
  have hdiv : v.divAcc = s.divAcc := (congrArg State.divAcc hbus).trans rfl
  have hlcd : v.lcdAcc = s.lcdAcc := (congrArg State.lcdAcc hbus).trans rfl
  have hlegal : v.FramebufferLegal := by
    unfold State.FramebufferLegal
    rw [hframe]
    exact hs.frame
  have hacc (htable : v.cfg.cycleTable = []) : v.lcdAcc < 456 := by
    rw [hlcd]
    exact hs.accumulators.lcd (hcfg ▸ htable)
  obtain ⟨-, rfl⟩ | ⟨-, rfl⟩ := hdone
  · rw [hrest]
    exact ⟨⟨hmem, hrom, hram⟩, hecho, hflags hs.flags, hbank, hcartridge, hline, hlegal,
      ⟨by rw [hdiv]; exact hs.accumulators.div, hacc, rfl⟩⟩
  · rw [hrest]
    exact inv_deviceStep ⟨⟨hmem, hrom, hram⟩, hecho, hbank, hcartridge, hline⟩ (hflags hs.flags) hlegal
      fun htable => ⟨hacc htable, (hcycles (hcfg ▸ htable)).1⟩

end Sys2Proof.Machine

namespace Sys2Proof.Proofs

open Sys2Proof.Machine Sys2Proof.Statements

/-- Settles O57: bus writes and CPU updates keep each part, then the devices do. -/
theorem stepKeepsInvariant : Obligations.StepKeepsInvariant := fun _ _ => inv_step

/-- Settles O59: bus writes and devices leave these fields, and the devices add the delta to the cycle count. -/
theorem stepFrame : Obligations.StepFrame := by
  intro s t hstep
  obtain ⟨v, w, ⟨hreach, hrest, -, hcount, hcycles⟩, hdone⟩ := step_next hstep
  obtain ⟨hrom, htype, hbuttons, hcfg, hclock⟩ : w.rom = s.rom ∧ w.cartType = s.cartType ∧ w.buttons = s.buttons ∧
      w.cfg = s.cfg ∧ w.cycleCount = s.cycleCount := by
    rw [hrest, hreach.busOnly]
    exact ⟨rfl, rfl, rfl, rfl, rfl⟩
  have hboot : w.bootMapped = true → s.bootMapped = true := by
    rw [hrest]
    exact hreach.bootMapped
  have hdelta : s.cfg.cycleTable = [] → w.stepCycles ≤ 48 ∧ (w.fault = none → 4 ≤ w.stepCycles) := by
    rw [hrest]
    exact hcycles
  obtain ⟨hfault, rfl⟩ | ⟨-, rfl⟩ := hdone
  · exact ⟨hrom, htype, hbuttons, hcfg, hboot, hcount.1, hcount.2, hclock.ge,
      fun _ => ⟨hclock.le.trans (Nat.le_add_right _ _), fun hnone => absurd hnone hfault⟩⟩
  · have heffect := deviceEffect_deviceStep w
    obtain ⟨hclock', -⟩ := w.deviceStep_counters
    have hfault : w.deviceStep.fault = w.fault := (congrArg State.fault heffect.rest).trans rfl
    have hcount' : w.deviceStep.instructionsExecuted = w.instructionsExecuted :=
      (congrArg State.instructionsExecuted heffect.rest).trans rfl
    have hboot' : w.deviceStep.bootMapped = w.bootMapped := (congrArg State.bootMapped heffect.rest).trans rfl
    refine ⟨((congrArg State.rom heffect.rest).trans rfl).trans hrom, ((congrArg State.cartType heffect.rest).trans rfl).trans htype,
      ((congrArg State.buttons heffect.rest).trans rfl).trans hbuttons, ((congrArg State.cfg heffect.rest).trans rfl).trans hcfg,
      fun h => hboot (hboot' ▸ h), by omega, by omega, by omega, fun htable => ?_⟩
    obtain ⟨hmost, hleast⟩ := hdelta htable
    refine ⟨by omega, fun hnone => ?_⟩
    have := hleast (hfault ▸ hnone)
    omega

end Sys2Proof.Proofs
end

section
/-! A step from the instruction at PC, in the terms of the statements (R500, R161, R33, R405, R512 to R516). -/

namespace Sys2Proof.Statements

open Sys2Proof.Machine

/-! ### The instruction at PC -/

theorem lengthOf_le (b0 : Byte) : lengthOf b0 ≤ 3 := by
  rcases lengthOf_cases b0 with hlen | hlen | hlen <;> omega

/-- The decoder of the statements and the fetch of the model read the same instruction, with the same length. -/
theorem fetched_of_atPc {u : State} {i : Instr} (h : AtPc u i) : u.fetchInstr = i ∧ u.pastInstr = past u i := by
  obtain ⟨rest, hdecode⟩ := h
  obtain ⟨b0, tail, hbytes, -, rfl, -⟩ := decode_eq_ok hdecode
  cases hbytes
  refine ⟨rfl, ?_⟩
  obtain ⟨-, hencode⟩ := encode_decodeBytes (u.readByte u.pc) (u.readByte (u.pc + 1)) (u.readByte (u.pc + 2))
  change u.pastInstr = past u (decodeBytes (u.readByte u.pc) (u.readByte (u.pc + 1)) (u.readByte (u.pc + 2)))
  rw [past, hencode, List.length_take_of_le (lengthOf_le _)]
  rfl

theorem isDi_eq_decide (i : Instr) : isDi i = decide (i = .di) := by
  unfold isDi
  split
  · rfl
  · next h => exact (decide_eq_false h).symm

/-- The EI delay as its rule says it (R405). -/
theorem applyEiDelay_eq (t : State) (pending : Bool) (i : Instr) :
    t.applyEiDelay pending (isDi i) = { t with
      ime := if pending = true ∧ i ≠ .di then true else t.ime
      imePending := if pending = true ∧ i ≠ .di then false else t.imePending } := by
  have hiff : (pending && !isDi i) = true ↔ pending = true ∧ i ≠ .di := by
    rw [isDi_eq_decide, Bool.and_eq_true, Bool.not_eq_true', decide_eq_false_iff_not]
  unfold State.applyEiDelay
  by_cases h : pending = true ∧ i ≠ .di
  · rw [if_pos (hiff.2 h), if_pos h, if_pos h]
  · rw [if_neg (mt hiff.1 h), if_neg h, if_neg h]

/-- What the statements and the model do after an instruction. -/
theorem finishInstr_eq_after (u t : State) (i : Instr) : t.finishInstr u.imePending (isDi i) = after u i t := by
  rw [after, State.finishInstr]
  cases hfault : t.fault with
  | some r => exact (if_pos (Option.some_ne_none r)).symm
  | none =>
    dsimp only
    rw [applyEiDelay_eq, if_neg (not_not_intro rfl), hfault]
    rfl

/-- A step that is not halted after the service runs the instruction at PC. -/
theorem step_of_atPc {s : State} {i : Instr} (hs : s.Enabled) (hrun : (serviced s).halted = false) (hpc : AtPc (serviced s) i) :
    ∃ t, exec i (past (serviced s) i) = .next t ∧ step s = .next (after (serviced s) i t) := by
  obtain ⟨hfetch, hpast⟩ := fetched_of_atPc hpc
  obtain ⟨r, hfault, -⟩ | ⟨-, hstopped, -⟩ | ⟨u, -, -, rfl, hhalted, -⟩ | ⟨u, t, -, -, rfl, -, hexec, hstep⟩ := step_cases s
  · cases hs.1.symm.trans hfault
  · cases hs.2.symm.trans hstopped
  · cases hrun.symm.trans hhalted
  · rw [finishInstr_eq_after] at hstep
    change exec (serviced s).fetchInstr (serviced s).pastInstr = _ at hexec
    change step s = .next (after (serviced s) (serviced s).fetchInstr t) at hstep
    rw [hfetch, hpast] at hexec
    rw [hfetch] at hstep
    exact ⟨t, hexec, hstep⟩

/-- A step that is halted after the service only feeds 4 cycles to the devices. -/
theorem step_of_halted {s : State} (hs : s.Enabled) (hhalted : (serviced s).halted = true) :
    step s = .next (devices { serviced s with stepCycles := (serviced s).stepCycles + 4 }) := by
  obtain ⟨r, hfault, -⟩ | ⟨-, hstopped, -⟩ | ⟨u, -, -, rfl, -, hstep⟩ | ⟨u, t, -, -, rfl, hrun, -, -⟩ := step_cases s
  · cases hs.1.symm.trans hfault
  · cases hs.2.symm.trans hstopped
  · exact hstep
  · cases hrun.symm.trans hhalted

theorem step_of_fault {s : State} {r : FaultRecord} (h : s.fault = some r) : step s = .fault (.unimplementedOpcode r.opcode r.pc) := by
  obtain ⟨r', hfault, hstep⟩ | ⟨hnone, -⟩ | ⟨u, hnone, -⟩ | ⟨u, t, hnone, -⟩ := step_cases s
  · cases h.symm.trans hfault
    exact hstep
  all_goals cases h.symm.trans hnone

theorem step_of_stopped {s : State} (h : s.Holding) : step s = .refused .stoppedHold := by
  obtain ⟨r, hfault, -⟩ | ⟨-, -, hstep⟩ | ⟨u, -, hrunning, -⟩ | ⟨u, t, -, hrunning, -⟩ := step_cases s
  · cases h.1.symm.trans hfault
  · exact hstep
  all_goals cases h.2.symm.trans hrunning

theorem atPc_fetchInstr (u : State) : AtPc u u.fetchInstr := ⟨_, decode_cons_of_le (lengthOf_le _)⟩

/-- The device phase leaves the CPU half but for the delta. -/
theorem devices_eq (t : State) : devices t = { t with
    cycleCount := t.cycleCount + t.stepCycles
    stepCycles := 0
    mem := (devices t).mem
    divAcc := (devices t).divAcc
    timaAcc := (devices t).timaAcc
    lcdAcc := (devices t).lcdAcc
    framebuffer := (devices t).framebuffer
    lineShade := (devices t).lineShade
    outputs := (devices t).outputs } :=
  (deviceEffect_deviceStep t).rest

/-! ### The interrupt service -/

/-- The lowest pending source has priority (R516). -/
theorem lowestSource_eq {pend : Byte} {k : Nat} (hk : k < 5) (hset : pend.getLsbD k = true)
    (hlow : ∀ j, j < k → pend.getLsbD j = false) : lowestSource pend = k := by
  unfold lowestSource getBit
  interval_cases k <;> simp (disch := decide) only [hset, hlow, Bool.false_eq_true, if_true, if_false]

theorem clearBit_eq_ofNat_sub {v : Byte} (k : Fin 8) (hset : v.getLsbD k = true) :
    clearBit v k = BitVec.ofNat 8 (v.toNat - 2 ^ k.val) := by
  have hbit : v.toNat / 2 ^ k.val % 2 = 1 := by
    rw [← Nat.toNat_testBit]
    exact congrArg Bool.toNat hset
  rw [← bitCleared_eq_clearBit, bitCleared, hbit, Nat.mul_one]

theorem vectorOf_eq {k : Nat} (hk : k < 5) : [0x0040, 0x0048, 0x0050, 0x0058, 0x0060].getD k 0 = vectorOf k := by
  interval_cases k <;> rfl

/-- The entry as its rule says it (R514). -/
theorem dispatchInterrupt_eq_pushed (s : State) {k : Nat} (wasHalted : Bool) (hk : k < 5) (hset : (s.memAt 0xFF0F).getLsbD k = true) :
    s.dispatchInterrupt k wasHalted =
      { pushed (s.pokeMem 0xFF0F (BitVec.ofNat 8 ((s.memAt 0xFF0F).toNat - 2 ^ k))) s.pc with
        pc := [0x0040, 0x0048, 0x0050, 0x0058, 0x0060].getD k 0
        ime := false
        imePending := false
        stepCycles := s.stepCycles + if wasHalted then 24 else 20 } := by
  have hclear : s.memAt 0xFF0F &&& ~~~irqMask k = BitVec.ofNat 8 ((s.memAt 0xFF0F).toNat - 2 ^ k) :=
    clearBit_eq_ofNat_sub ⟨k, by omega⟩ hset
  have hdelta (t : State) : (t.push s.pc).stepCycles = t.stepCycles := by
    rw [State.push_eq]
    rfl
  rw [State.dispatchInterrupt, hclear, pushed_eq_push, vectorOf_eq hk]
  unfold State.addCycles
  dsimp only
  rw [hdelta]
  rfl

end Sys2Proof.Statements
end

section
/-! The obligations about the step. -/

namespace Sys2Proof.Proofs

open Sys2Proof.Machine Sys2Proof.Statements

/-- Settles O31: each row is its latch and its cost. -/
theorem systemLatches : Obligations.SystemLatches := fun _ _ =>
  ⟨⟨fun _ => rfl, rfl⟩, ⟨fun _ => rfl, rfl⟩, ⟨fun _ => rfl, rfl⟩, ⟨fun _ => rfl, rfl⟩, fun _ => rfl, rfl⟩

/-- Settles O32: the fetch reads what the statement decodes. -/
theorem stepRunsDecodedInstruction : Obligations.StepRunsDecodedInstruction := by
  intro s i hs hrun hpc
  obtain ⟨t, hexec, hstep⟩ := step_of_atPc hs hrun hpc
  rw [hexec]
  exact hstep

/-- Settles O33: the cases of the step, the idle one through what the devices leave. -/
theorem stepOutcomes : Obligations.StepOutcomes := by
  intro s
  refine ⟨fun r => step_of_fault, step_of_stopped, fun hs hhalted => ?_, fun hs => ?_⟩
  · have hstep := step_of_halted hs hhalted
    obtain ⟨-, hbus⟩ := serviceEffect_serviced s
    have hclock : (serviced s).cycleCount = s.cycleCount := (congrArg State.cycleCount hbus.busOnly).trans rfl
    refine ⟨hstep, _, hstep, ?_⟩
    rw [devices_eq, ← hbus.instructionsExecuted, ← hclock]
    exact ⟨rfl, rfl, rfl, rfl, rfl, rfl, rfl, rfl, rfl, rfl, hhalted, (Nat.add_assoc _ _ _).symm, rfl⟩
  · cases hhalted : (serviced s).halted with
    | true => exact ⟨_, step_of_halted hs hhalted⟩
    | false =>
      obtain ⟨t, -, hstep⟩ := step_of_atPc hs hhalted (atPc_fetchInstr _)
      exact ⟨_, hstep⟩

/-- Settles O34: the row's fault ends the step before its devices. -/
theorem illegalOpcodeStep : Obligations.IllegalOpcodeStep := by
  intro s p hs hrun hp hbyte
  obtain ⟨-, hencode, hraise⟩ := illegal_rows p hp
  have hpc : AtPc (serviced s) p.2 := ⟨_, hbyte ▸ encodes_illegal hp _⟩
  obtain ⟨t, hexec, hstep⟩ := step_of_atPc hs hrun hpc
  cases hexec.symm.trans (hraise _)
  have hpast : past (serviced s) p.2 = { serviced s with pc := (serviced s).pc + 1 } := by
    rw [past, hencode]
    rfl
  have hafter : after (serviced s) p.2 ((past (serviced s) p.2).raiseUnimplemented p.1) =
      { serviced s with pc := (serviced s).pc + 1, fault := some ⟨p.1, (serviced s).pc⟩, stepCycles := 0 } := by
    refine (if_pos (Option.some_ne_none _)).trans ?_
    rw [hpast, State.raiseUnimplemented, BitVec.add_sub_cancel]
  exact ⟨_, hstep, hafter, step_of_fault (r := ⟨p.1, (serviced s).pc⟩) ((congrArg State.fault hafter).trans rfl)⟩

/-- Settles O35: the delay is what the step does between the instruction and the devices, and the devices leave both latches. -/
theorem eiDelay : Obligations.EiDelay := by
  intro s i hs
  refine ⟨fun hrun hpc => ?_, fun hhalted => ?_⟩
  · obtain ⟨t, hexec, hstep⟩ := step_of_atPc hs hrun hpc
    refine ⟨t, _, hexec, hstep, fun hfault => ?_⟩
    rw [after, if_neg (not_not_intro hfault), devices_eq]
    exact ⟨fun h => ⟨if_pos h, if_pos h⟩, fun h => ⟨if_neg h, if_neg h⟩⟩
  · refine ⟨_, step_of_halted hs hhalted, ?_⟩
    rw [devices_eq]
    exact ⟨rfl, rfl⟩

/-- Settles O36: the cases of the service, the dispatch as a clear of the lowest pending bit, a push and a jump. -/
theorem interruptService : Obligations.InterruptService := by
  intro s
  refine ⟨fun hnone => ?_, fun hpending hime => ?_, fun k hk hset hlow hime => ?_⟩
  · obtain ⟨-, h⟩ | ⟨hpending, -⟩ | ⟨hpending, -⟩ := s.service_cases
    · exact h
    all_goals exact absurd hnone hpending
  · obtain ⟨hnone, -⟩ | ⟨-, -, h⟩ | ⟨-, hime', -⟩ := s.service_cases
    · exact absurd hnone hpending
    · exact h
    · cases hime.symm.trans hime'
  · have hif : (s.memAt 0xFF0F).getLsbD k = true := by
      rw [BitVec.getLsbD_and, BitVec.getLsbD_and, Bool.and_eq_true, Bool.and_eq_true] at hset
      exact hset.1.2
    obtain ⟨hnone, -⟩ | ⟨-, hime', -⟩ | ⟨-, -, h⟩ := s.service_cases
    · rw [show s.memAt 0xFFFF &&& s.memAt 0xFF0F &&& 0x1F = 0 from hnone] at hset
      exact absurd hset (by simp)
    · cases hime.symm.trans hime'
    · rw [h, show lowestSource s.pendingIrqs = k from lowestSource_eq hk hset hlow]
      exact dispatchInterrupt_eq_pushed { s with halted := false } s.halted hk hif

end Sys2Proof.Proofs
end

section
/-! What a bus write leaves: the bank controller's numbers, OAM DMA and the boot unmap byte by byte, and what reads back. -/

namespace Sys2Proof.Statements

open Sys2Proof.Machine

/-! ### The upper bank bits and the mode -/

/-- The bank number before the remap: bits 6:5 from the value, the low 5 bits kept (R121). -/
theorem toNat_mergeUpperBits (r : BitVec 7) (src : UpperBitsSource) (v : Byte) :
    ((r &&& 0x1F) ||| upperBankBits src v).toNat =
      32 * (if src = .dataBits5to6 then v.toNat / 32 % 4 else v.toNat % 4) + r.toNat % 32 := by
  have hlow : ∀ r : BitVec 7, (r &&& 0x1F).toNat = r.toNat % 32 := by decide
  have hhigh : (upperBankBits src v).toNat = 2 ^ 5 * (if src = .dataBits5to6 then v.toNat / 32 % 4 else v.toNat % 4) := by
    cases src <;> revert v <;> decide
  rw [BitVec.toNat_or, Nat.or_comm, hlow, hhigh, ← Nat.two_pow_add_eq_or_of_lt (Nat.mod_lt _ (by decide))]

theorem ramBankBits_eq (v : Byte) : (v &&& 0x03).setWidth 2 = BitVec.ofNat 2 (v.toNat % 4) := by
  revert v; decide

/-! ### OAM DMA and the boot unmap, byte by byte -/

/-- The first `n` bytes of an OAM DMA. -/
def dmaBytes (v : Byte) (n : Nat) (s : State) : State :=
  (List.range n).foldl (fun t i => t.pokeMem (0xFE00 + i) (t.readByte (BitVec.ofNat 16 (v.toNat * 256 + i)))) s

theorem oamDma_eq_dmaBytes (s : State) (v : Byte) : s.oamDma v = dmaBytes v 160 s := rfl

theorem dmaBytes_succ (v : Byte) (n : Nat) (s : State) : dmaBytes v (n + 1) s =
    (dmaBytes v n s).pokeMem (0xFE00 + n) ((dmaBytes v n s).readByte (BitVec.ofNat 16 (v.toNat * 256 + n))) := by
  rw [dmaBytes, List.range_succ, List.foldl_append]
  rfl

theorem onlyMem_dmaBytes (v : Byte) (n : Nat) (s : State) : OnlyMem (fun x => 0xFE00 ≤ x ∧ x < 0xFE00 + n) s (dmaBytes v n s) :=
  onlyMem_foldl_pokeMem (fun i => 0xFE00 + i) _ _ s fun _ hi =>
    ⟨Nat.le_add_right _ _, Nat.add_lt_add_left (List.mem_range.1 hi) _⟩

/-- Each byte is the one that its source address read before the DMA: a source in OAM is not behind the bytes already copied. -/
theorem memAt_dmaBytes (v : Byte) (s : State) {n i : Nat} (hn : n ≤ 160) (hi : i < n) :
    (dmaBytes v n s).memAt (0xFE00 + i) = s.readByte (BitVec.ofNat 16 (v.toNat * 256 + i)) := by
  induction n with
  | zero => exact absurd hi (Nat.not_lt_zero i)
  | succ n ih =>
    rw [dmaBytes_succ]
    obtain hlt | rfl := Nat.lt_succ_iff_lt_or_eq.1 hi
    · rw [State.memAt_pokeMem_other _ _ (by omega)]
      exact ih (by omega) hlt
    · rw [State.memAt_pokeMem_same]
      refine (onlyMem_dmaBytes v i s).readByte ?_
      have := v.isLt
      rw [BitVec.toNat_ofNat, Nat.mod_eq_of_lt (by omega)]
      omega

/-- The first `n` bytes of a boot unmap. -/
def unmapBytes (n : Nat) (s : State) : State := (List.range n).foldl (fun t i => t.pokeMem i (t.romAt i)) s

theorem unmapBytes_succ (n : Nat) (s : State) :
    unmapBytes (n + 1) s = (unmapBytes n s).pokeMem n ((unmapBytes n s).romAt n) := by
  rw [unmapBytes, List.range_succ, List.foldl_append]
  rfl

theorem unmapBytes_rest (n : Nat) (s : State) : unmapBytes n s = { s with mem := (unmapBytes n s).mem } :=
  (onlyMem_foldl_pokeMem (A := fun _ => True) (fun i => i) _ _ s fun _ _ => trivial).rest

theorem memAt_unmapBytes (n : Nat) (s : State) (a : Nat) :
    (unmapBytes n s).memAt a = if a < n then s.romAt a else s.memAt a := by
  induction n with
  | zero => rfl
  | succ n ih =>
    have hrom : (unmapBytes n s).romAt n = s.romAt n := by
      rw [unmapBytes_rest]
      rfl
    rw [unmapBytes_succ, State.memAt_pokeMem, hrom, ih]
    obtain hlt | rfl | hgt := Nat.lt_trichotomy a n
    · rw [if_neg (by omega), if_pos hlt, if_pos (by omega)]
    · rw [if_pos rfl, if_pos (Nat.lt_succ_self a)]
    · rw [if_neg (by omega), if_neg (by omega), if_neg (by omega)]

theorem bootUnmap_eq (s : State) : s.bootUnmap = { unmapBytes 256 s with bootMapped := false } := rfl

theorem memAt_withBootMapped (s : State) (b : Bool) (a : Nat) : ({ s with bootMapped := b } : State).memAt a = s.memAt a := rfl

/-! ### What reads back -/

/-- A write to an address that reads back is a raw one, or one to enabled cartridge RAM. -/
theorem writeByte_of_readsBack {s : State} {x : Word} (v : Byte) (h : readsBack s x) :
    (∃ A : Nat → Prop, BytesBecome A v s (s.writeByte x v) ∧ A x.toNat ∧
      0x8000 ≤ x.toNat ∧ ¬(0xA000 ≤ x.toNat ∧ x.toNat ≤ 0xBFFF) ∧ ¬(0xFF00 ≤ x.toNat ∧ x.toNat ≤ 0xFF3F)) ∨
    (0xA000 ≤ x.toNat ∧ x.toNat ≤ 0xBFFF ∧ s.ramEnabled = true) := by
  obtain ⟨-, -, hwork, hecho, -, -, hplain⟩ := Proofs.busWrites s x v
  obtain ⟨h1, h2⟩ | ⟨h1, h2⟩ | h1 | hcart := h
  · exact .inl ⟨_, hplain (.inl ⟨h1, h2⟩), rfl, by omega⟩
  · by_cases hw : x.toNat ≤ 0xDDFF
    · exact .inl ⟨_, hwork h1 hw, .inl rfl, by omega⟩
    by_cases he : 0xE000 ≤ x.toNat ∧ x.toNat ≤ 0xFDFF
    · exact .inl ⟨_, hecho he.1 he.2, .inl rfl, by omega⟩
    · exact .inl ⟨_, hplain (by omega), rfl, by omega⟩
  · exact .inl ⟨_, hplain (by omega), rfl, by omega⟩
  · exact .inr hcart

/-- R75, R93, R96, R105 to R107, R114. -/
theorem readByte_writeByte_same {s : State} {x : Word} (v : Byte) (h : readsBack s x) : (s.writeByte x v).readByte x = v := by
  obtain ⟨A, ⟨-, hbytes, -⟩, hx, hhigh, hwindow, hio⟩ | ⟨h1, h2, henabled⟩ := writeByte_of_readsBack v h
  · rw [State.readByte_plain _ (by omega) hwindow (by omega) (by omega) (by omega)]
    exact hbytes _ hx
  · rw [State.readByte_cartRam _ h1 h2, s.writeByte_cartRam v henabled h1 h2]
    exact (if_pos henabled).trans ((s.ramAt_pokeRam _ _ v).trans (if_pos rfl))

/-- A write to such an address leaves the RAM enable, so the others still read back. -/
theorem ramEnabled_writeByte_of_readsBack {s : State} {x : Word} (v : Byte) (h : readsBack s x) :
    (s.writeByte x v).ramEnabled = s.ramEnabled := by
  obtain ⟨A, ⟨hrest, -⟩, -⟩ | ⟨h1, h2, henabled⟩ := writeByte_of_readsBack v h
  · exact (congrArg State.ramEnabled hrest).trans rfl
  · rw [s.writeByte_cartRam v henabled h1 h2]
    rfl

/-- A write to such an address shows at the byte and its mirror only. -/
theorem not_reaches_of_readsBack {s : State} {x y : Word} {v : Byte} (h : readsBack s x) (hy : y.toNat ≠ x.toNat)
    (hup : y.toNat ≠ x.toNat + 0x2000) (hdown : y.toNat + 0x2000 ≠ x.toNat) : ¬ reaches s x v y := by
  unfold readsBack at h
  unfold reaches
  dsimp only
  split_ifs <;> omega

/-! ### The stack -/

theorem stackPair_setStackPair (s t : State) (q : StackPair) : (t.setStackPair q (s.stackPair q)).stackPair q = s.stackPair q := by
  cases q
  case af =>
    change mkWord (hiByte s.af) (loByte s.af &&& 0xF0 &&& 0xF0) = s.af
    rw [State.af, hiByte_mkWord, loByte_mkWord, State.fReg, BitVec.and_assoc, BitVec.and_assoc]
    rfl
  all_goals exact Laws.Encoding.mkWord_parts _

theorem push_sp (s : State) (w : Word) : (s.push w).sp = s.sp - 2 := by
  rw [State.push_eq]
  rfl

/-- A pushed word is popped where the two bytes read back. -/
theorem popValue_push {s : State} (w : Word) (hhi : readsBack s (s.sp - 1)) (hlo : readsBack s (s.sp - 2)) :
    (s.push w).popValue = w := by
  have hnext : s.sp - 2 + 1 = s.sp - 1 := by bv_omega
  let first : State := s.writeByte (s.sp - 1) (hiByte w)
  have hlo' : readsBack first (s.sp - 2) := by
    unfold readsBack
    rw [ramEnabled_writeByte_of_readsBack _ hhi]
    exact hlo
  have hread (y : Word) : (s.push w).readByte y = (first.writeByte (s.sp - 2) (loByte w)).readByte y := by
    rw [State.push_eq, hnext]
    rfl
  have hhigh : (s.push w).readByte (s.sp - 1) = hiByte w := by
    rw [hread, readByte_writeByte_of_not_reaches, readByte_writeByte_same _ hhi]
    refine not_reaches_of_readsBack hlo' ?_ ?_ ?_ <;> bv_omega
  have hlow : (s.push w).readByte (s.sp - 2) = loByte w := by
    rw [hread, readByte_writeByte_same _ hlo']
  rw [State.popValue, State.readWord, push_sp, hnext, hhigh, hlow, Laws.Encoding.mkWord_parts]

/-! ### Any number of bus writes -/

/-- The bytes of `mem` that no bus write changes: LY, the prohibited range, and the ROM image past the boot ROM (R100). -/
def protectedByte (a : Nat) : Prop := a = 0xFF44 ∨ (0xFEA0 ≤ a ∧ a ≤ 0xFEFF) ∨ (0x100 ≤ a ∧ a ≤ 0x7FFF)

/-- What bus writes keep. -/
structure StoreFrame (s t : State) : Prop where
  bus : BusOnly s t
  bytes : ∀ a, protectedByte a → t.memAt a = s.memAt a
  echo : s.EchoMirrored → t.EchoMirrored
  bank : s.BankReachable → t.BankReachable
  controller : s.cartType = 0x00 →
    t.romBank = s.romBank ∧ t.ramBank = s.ramBank ∧ t.ramEnabled = s.ramEnabled ∧ t.mbcMode = s.mbcMode

theorem StoreFrame.refl (s : State) : StoreFrame s s := ⟨.refl s, fun _ _ => rfl, id, id, fun _ => ⟨rfl, rfl, rfl, rfl⟩⟩

theorem StoreFrame.trans {s t u : State} (h : StoreFrame s t) (k : StoreFrame t u) : StoreFrame s u := by
  have htype : t.cartType = s.cartType := (congrArg State.cartType h.bus).trans rfl
  refine ⟨h.bus.trans k.bus, fun a ha => (k.bytes a ha).trans (h.bytes a ha), fun hs => k.echo (h.echo hs),
    fun hs => k.bank (h.bank hs), fun hs => ?_⟩
  obtain ⟨h1, h2, h3, h4⟩ := h.controller hs
  obtain ⟨k1, k2, k3, k4⟩ := k.controller (htype.trans hs)
  exact ⟨k1.trans h1, k2.trans h2, k3.trans h3, k4.trans h4⟩

/-- A raw writer of unprotected bytes. -/
theorem storeFrame_onlyMem {A : Nat → Prop} {s t : State} (h : OnlyMem A s t) (hA : ∀ a, A a → ¬ protectedByte a)
    (hecho : s.EchoMirrored → t.EchoMirrored) : StoreFrame s t := by
  refine ⟨h.busOnly, fun a ha => h.bytes a fun hAa => hA a hAa ha, hecho, ?_, fun _ => ?_⟩ <;> rw [h.rest]
  · exact id
  · exact ⟨rfl, rfl, rfl, rfl⟩

theorem echoMirrored_onlyMem {A : Nat → Prop} {s t : State} (h : OnlyMem A s t)
    (hA : ∀ a, A a → ¬(0xC000 ≤ a ∧ a ≤ 0xDDFF) ∧ ¬(0xE000 ≤ a ∧ a ≤ 0xFDFF)) (hs : s.EchoMirrored) : t.EchoMirrored := by
  intro a h1 h2
  rw [h.bytes a fun hAa => (hA a hAa).1 ⟨h1, h2⟩, h.bytes (a + 0x2000) fun hAa => (hA _ hAa).2 ⟨by omega, by omega⟩]
  exact hs a h1 h2

/-- A raw write outside working and echo RAM. -/
theorem storeFrame_pokeMem (s : State) {a : Nat} (v : Byte) (ha : ¬ protectedByte a) (h1 : ¬(0xC000 ≤ a ∧ a ≤ 0xDDFF))
    (h2 : ¬(0xE000 ≤ a ∧ a ≤ 0xFDFF)) : StoreFrame s (s.pokeMem a v) :=
  have h := onlyMem_pokeMem (A := fun x => x = a) s a v rfl
  storeFrame_onlyMem h (fun _ hx => hx ▸ ha) (echoMirrored_onlyMem h fun _ hx => hx ▸ ⟨h1, h2⟩)

/-- A write of a byte of working RAM and of its echo. -/
theorem storeFrame_mirrored (s : State) {a b : Nat} (v : Byte)
    (hab : (0xC000 ≤ a ∧ a ≤ 0xDDFF ∧ b = a + 0x2000) ∨ (0xC000 ≤ b ∧ b ≤ 0xDDFF ∧ a = b + 0x2000)) :
    StoreFrame s ((s.pokeMem a v).pokeMem b v) := by
  have h : OnlyMem (fun x => x = a ∨ x = b) s ((s.pokeMem a v).pokeMem b v) :=
    (onlyMem_pokeMem s a v (.inl rfl)).trans (onlyMem_pokeMem _ b v (.inr rfl))
  refine storeFrame_onlyMem h (fun x hx => ?_) fun hs x h1 h2 => ?_
  · unfold protectedByte
    omega
  · rw [State.memAt_pokeMem, State.memAt_pokeMem, State.memAt_pokeMem, State.memAt_pokeMem]
    by_cases hx : x = a ∨ x = b
    · rw [← ite_or, ← ite_or, if_pos (by omega), if_pos (by omega)]
    · rw [← ite_or, ← ite_or, if_neg (by omega), if_neg (by omega)]
      exact hs x h1 h2

/-- An update of the bank controller alone, which a cartridge without one does not have. -/
theorem storeFrame_controller {s t : State} (hc : s.cartType ≠ 0x00) (hbus : BusOnly s t) (hmem : t.memAt = s.memAt)
    (hbank : s.BankReachable → t.BankReachable) : StoreFrame s t := by
  refine ⟨hbus, fun a _ => congrFun hmem a, fun hs a h1 h2 => ?_, hbank, fun h => absurd h hc⟩
  rw [hmem]
  exact hs a h1 h2

theorem storeFrame_writeByte (s : State) (x : Word) (v : Byte) : StoreFrame s (s.writeByte x v) := by
  have hpoke (h : 0xFF00 ≤ x.toNat ∧ x.toNat ≠ 0xFF44) : StoreFrame s (s.pokeMem x.toNat v) :=
    storeFrame_pokeMem s v (by unfold protectedByte; omega) (by omega) (by omega)
  refine State.writeByte_elim (P := fun t => StoreFrame s t) s x v (fun _ => .refl s)
    (fun _ hc => storeFrame_controller hc rfl rfl id) (fun _ _ hc => storeFrame_controller hc rfl rfl fun _ => remapBank_reachable _)
    (fun _ _ hc => ?_) (fun _ _ hc => storeFrame_controller hc rfl rfl id)
    (fun _ _ _ => ⟨rfl, fun _ _ => rfl, id, id, fun _ => ⟨rfl, rfl, rfl, rfl⟩⟩)
    (fun h1 h2 => storeFrame_mirrored s v (.inl ⟨h1, h2, rfl⟩)) (fun h1 h2 => storeFrame_mirrored s v (.inr (by omega)))
    (fun h => (hpoke (by omega)).trans ?_) (fun h => storeFrame_pokeMem s 0x00 (by unfold protectedByte; omega) (by omega) (by omega))
    (fun h => (hpoke (by omega)).trans ?_) (fun h1 h2 _ => (hpoke (by omega)).trans ?_) (fun h0 hA hC hE hprohibited _ _ hLY _ _ => ?_)
  · unfold State.selectUpperBits
    split
    · exact storeFrame_controller hc rfl rfl id
    · exact storeFrame_controller hc rfl rfl fun _ => remapBank_reachable _
  · unfold State.serialHook
    split
    · exact ⟨rfl, fun _ _ => rfl, id, id, fun _ => ⟨rfl, rfl, rfl, rfl⟩⟩
    · exact .refl _
  · refine storeFrame_onlyMem (onlyMem_oamDma _ v) (fun a ha => ?_) (echoMirrored_onlyMem (onlyMem_oamDma _ v) fun a ha => ?_)
    · unfold protectedByte
      omega
    · omega
  · refine StoreFrame.trans (t := { s.pokeMem x.toNat v with bootMapped := false })
      ⟨rfl, fun _ _ => rfl, id, id, fun _ => ⟨rfl, rfl, rfl, rfl⟩⟩ ?_
    refine storeFrame_onlyMem (onlyMem_bootUnmap _) (fun a ha => ?_) (echoMirrored_onlyMem (onlyMem_bootUnmap _) fun a ha => ?_)
    · unfold protectedByte
      omega
    · omega
  · exact storeFrame_pokeMem s v (by unfold protectedByte; omega) hC hE

theorem storeFrame_stored (l : List (Word × Byte)) (s : State) : StoreFrame s (stored l s) := by
  induction l generalizing s with
  | nil => exact .refl s
  | cons p l ih => exact (storeFrame_writeByte s p.1 p.2).trans (ih _)

end Sys2Proof.Statements
end

section
/-! The obligations about the bus. -/

namespace Sys2Proof.Proofs

open Sys2Proof.Machine Sys2Proof.Statements

/-- Settles O37: the rows of ReadByte. -/
theorem busReads : Obligations.BusReads := fun s _ =>
  ⟨s.readByte_rom, s.readByte_cartRam, s.readByte_requests, s.readByte_audio, s.readByte_plain⟩

/-- Settles O41, by the value of the merged bank number and of the low bits. -/
theorem upperBitsAndMode : Obligations.UpperBitsAndMode := by
  intro s x v hc
  refine ⟨fun h1 h2 hmode => ?_, fun h1 h2 hmode => ?_, fun h1 h2 => ?_⟩
  · rw [s.writeByte_upperBits v hc h1 h2, State.selectUpperBits, hmode, if_neg Bool.false_ne_true, remapBank_eq_bankAfterRemap,
      toNat_mergeUpperBits]
  · rw [s.writeByte_upperBits v hc h1 h2, State.selectUpperBits, if_pos hmode, ramBankBits_eq]
  · rw [s.writeByte_mode v hc h1 h2, State.setMbcMode, getBit_zero_eq_decide]

/-- Settles O42: a DMA and an unmap are raw writes of one byte after another. -/
theorem dmaAndBootUnmap : Obligations.DmaAndBootUnmap := by
  refine ⟨fun s v => ?_, fun s x v h1 h2 => ⟨fun hv => ?_, fun hv => ?_⟩⟩
  · have hdma := onlyMem_oamDma (s.pokeMem 0xFF46 v) v
    dsimp only
    rw [s.writeByte_dma v rfl]
    refine ⟨fun i hi => ?_, ?_, fun a ha hOAM => ?_, ?_⟩
    · rw [oamDma_eq_dmaBytes, Nat.mul_comm 256]
      exact memAt_dmaBytes v _ (le_refl 160) hi
    · rw [hdma.bytes _ (by decide), State.memAt_pokeMem_same]
    · rw [hdma.bytes a hOAM, State.memAt_pokeMem_other s v ha]
    · rw [hdma.rest]
      rfl
  · rw [s.writeByte_noUnmap v h1 h2 hv]
    exact bytesBecome_pokeMem s _ v
  · rw [s.writeByte_unmap v h1 h2 hv, bootUnmap_eq]
    refine ⟨?_, fun a => ?_⟩
    · rw [unmapBytes_rest]
      rfl
    · rw [memAt_withBootMapped, memAt_unmapBytes, State.memAt_pokeMem]
      rfl

/-- Settles O43: what reads back, first through one write, then through the two of a push. -/
theorem storeThenLoad : Obligations.StoreThenLoad := by
  refine ⟨fun s a x v => ⟨s.memAt_pokeMem a x v, rfl⟩, fun s x v => readByte_writeByte_same v, fun s q hhi hlo => ?_⟩
  refine ⟨_, _, exec_pushPair s q, exec_popPair _ q, ?_, ?_⟩
  · have hpop : ((s.push (s.stackPair q)).spend (.base (opc (0xC5 + 16 * stackCode q))) 16).popValue = s.stackPair q :=
      popValue_push _ hhi hlo
    rw [getStack_eq_stackPair, getStack_eq_stackPair, hpop]
    exact stackPair_setStackPair s _ q
  · refine (State.setStackPair_sp _ q _).trans ?_
    change (s.push (s.stackPair q)).sp + 2 = s.sp
    rw [push_sp, BitVec.sub_add_cancel]

/-- Settles O46, write by write. -/
theorem busWriteFrame : Obligations.BusWriteFrame := by
  intro l s
  obtain ⟨hbus, hbytes, hecho, hbank, hcontroller⟩ := storeFrame_stored l s
  exact ⟨hbus, hbytes _ (.inl rfl), fun a h1 h2 => hbytes a (.inr (.inl ⟨h1, h2⟩)), fun a h1 h2 => hbytes a (.inr (.inr ⟨h1, h2⟩)),
    hecho, hbank, hcontroller⟩

end Sys2Proof.Proofs
end

section
/-! Rotates done again and again: the orbit of a byte and its carry (R341). -/

namespace Sys2Proof.Statements

open Sys2Proof.Machine

/-- One rotate of a byte and the carry. -/
def rotated (op : ShiftOp) (p : Byte × Bool) : Byte × Bool := (shiftResult op p.1 p.2, shiftOut op p.1)

theorem rotated_rlc_eight (v : Byte) (c : Bool) : (rotated .rlc)^[8] (v, c) = (v, v.getLsbD 0) := by
  revert v c; decide

theorem rotated_rrc_eight (v : Byte) (c : Bool) : (rotated .rrc)^[8] (v, c) = (v, v.getLsbD 7) := by
  revert v c; decide

theorem rotated_rl_nine (v : Byte) (c : Bool) : (rotated .rl)^[9] (v, c) = (v, c) := by
  revert v c; decide

theorem rotated_rr_nine (v : Byte) (c : Bool) : (rotated .rr)^[9] (v, c) = (v, c) := by
  revert v c; decide

/-- Where `P` holds, `i` rotates the byte `view s` and the carry by `op`, and `P` holds again. -/
def Rotates (i : Instr) (op : ShiftOp) (P : State → Prop) (view : State → Byte) : Prop :=
  ∀ s, P s → ∃ t, exec i s = .next t ∧ P t ∧ (view t, cOf t) = rotated op (view s, cOf s)

section
variable {i : Instr} {op : ShiftOp} {P : State → Prop} {view : State → Byte}

theorem Rotates.times (h : Rotates i op P view) (n : Nat) {s : State} (hs : P s) :
    ∃ t, times i n s = .next t ∧ (view t, cOf t) = (rotated op)^[n] (view s, cOf s) := by
  induction n generalizing s with
  | zero => exact ⟨s, rfl, rfl⟩
  | succ n ih =>
    obtain ⟨t, hexec, ht, hview⟩ := h s hs
    obtain ⟨u, htimes, hu⟩ := ih ht
    refine ⟨u, ?_, by rw [hu, hview, Function.iterate_succ_apply]⟩
    rw [Statements.times, hexec]
    exact htimes

/-- What `n` rotates leave, given what `n` of them do to a byte and a carry. -/
theorem Rotates.times_eq (h : Rotates i op P view) {n : Nat} {s : State} (hs : P s) {v : Byte} {c : Bool}
    (hn : (rotated op)^[n] (view s, cOf s) = (v, c)) : ∃ t, Statements.times i n s = .next t ∧ view t = v ∧ cOf t = c := by
  obtain ⟨t, htimes, ht⟩ := h.times n hs
  obtain ⟨hv, hc⟩ := Prod.mk.inj (ht.trans hn)
  exact ⟨t, htimes, hv, hc⟩

end

/-! ### The three forms -/

theorem cOf_setFlags (s : State) (z n h c : Bool) : cOf (s.setFlags z n h c) = c := by
  revert z n h c
  show ∀ z n h c : Bool, (packFlags z n h c).getLsbD 4 = c
  decide

theorem rotates_shiftReg8 (op : ShiftOp) (r : Reg8) : Rotates (shiftReg8 op r) op (fun _ => True) (getReg · r) := by
  intro s _
  refine ⟨_, exec_shiftReg8 s op r, trivial, Prod.ext ?_ ?_⟩
  · dsimp only
    rw [getReg_eq_reg, getReg_eq_reg]
    exact State.reg_setReg_same _ r _
  · dsimp only
    rw [getReg_eq_reg]
    exact (congrArg (BitVec.getLsbD · 4) (State.setReg_f _ r _)).trans (cOf_setFlags s _ _ _ _)

theorem rotates_rotateA {i : Instr} {op : ShiftOp} {k : CostKey} {n : Nat}
    (h : ∀ s, exec i s = .next ((s.rotateA op).spend k n)) : Rotates i op (fun _ => True) State.a :=
  fun s _ => ⟨_, h s, trivial, Prod.ext rfl (cOf_setFlags { s with a := shiftResult op s.a s.flagC } _ _ _ _)⟩

/-- The byte at HL, where it reads back. -/
theorem rotates_shiftMem (op : ShiftOp) (x : Word) :
    Rotates (shiftMem op) op (fun s => s.hl = x ∧ readsBack s x) (State.readByte · x) := by
  rintro s ⟨rfl, hback⟩
  have hback' : readsBack (s.shiftFlags op s.readHL) s.hl := hback
  refine ⟨_, exec_shiftMem s op, ⟨?_, ?_⟩, Prod.ext (readByte_writeByte_same _ hback') ?_⟩
  · exact congrArg₂ mkWord (State.writeByte_h _ _ _) (State.writeByte_l _ _ _)
  · have henabled := ramEnabled_writeByte_of_readsBack (shiftResult op s.readHL s.flagC) hback'
    exact hback.imp_right (.imp_right (.imp_right fun ⟨h1, h2, h3⟩ => ⟨h1, h2, henabled.trans h3⟩))
  · exact (congrArg (BitVec.getLsbD · 4) (State.writeByte_f _ _ _)).trans (cOf_setFlags s _ _ _ _)

end Sys2Proof.Statements
end

section
/-! The obligation about repeated rotates. -/

namespace Sys2Proof.Proofs

open Sys2Proof.Machine Sys2Proof.Statements

/-- Settles O25: the orbit of a byte and its carry, for each of the three forms. -/
theorem rotatesReturn : Obligations.RotatesReturn := by
  intro s r
  refine ⟨(rotates_shiftReg8 .rlc r).times_eq trivial (rotated_rlc_eight _ _),
    (rotates_shiftReg8 .rrc r).times_eq trivial (rotated_rrc_eight _ _),
    (rotates_rotateA fun _ => rfl).times_eq trivial (rotated_rlc_eight _ _),
    (rotates_rotateA fun _ => rfl).times_eq trivial (rotated_rrc_eight _ _),
    (rotates_shiftReg8 .rl r).times_eq trivial (rotated_rl_nine _ _),
    (rotates_shiftReg8 .rr r).times_eq trivial (rotated_rr_nine _ _),
    (rotates_rotateA fun _ => rfl).times_eq trivial (rotated_rl_nine _ _),
    (rotates_rotateA fun _ => rfl).times_eq trivial (rotated_rr_nine _ _), fun hback => ?_⟩
  have hs : s.hl = hlOf s ∧ readsBack s (hlOf s) := ⟨(hlOf_eq_hl s).symm, hback⟩
  exact ⟨(rotates_shiftMem .rlc _).times_eq hs (rotated_rlc_eight _ _),
    (rotates_shiftMem .rrc _).times_eq hs (rotated_rrc_eight _ _),
    (rotates_shiftMem .rl _).times_eq hs (rotated_rl_nine _ _), (rotates_shiftMem .rr _).times_eq hs (rotated_rr_nine _ _)⟩

end Sys2Proof.Proofs
end

section
/-! One line of the display after another (R541, R548). -/

namespace Sys2Proof.Statements

open Sys2Proof.Machine

/-- The display is on, at the start of line `n`. -/
structure AtLine (n : Nat) (s : State) : Prop where
  on : ioBit s 0xFF40 7 = true
  acc : s.lcdAcc = 0
  line : (s.memAt 0xFF44).toNat = n

/-- What an update by a whole line's 456 cycles does. -/
structure LineUpdated (n : Nat) (s t : State) : Prop where
  next : AtLine (if n = 153 then 0 else n + 1) t
  vblank : ioBit t 0xFF0F 0 = (ioBit s 0xFF0F 0 || decide (n = 143))
  outputs : t.outputs = if n = 143 then .present t.framebuffer :: s.outputs else s.outputs

theorem lineUpdated_lcdUpdate {n : Nat} {s : State} (h : AtLine n s) (hn : n ≤ 153) : LineUpdated n s (s.lcdUpdate 456) := by
  obtain ⟨hacc, hline, -, hrequests, -, -, houtputs, hbytes, -⟩ := Proofs.lcdLine s 456 h.on
  simp only [h.acc, h.line, Nat.zero_add, Nat.le_refl, decide_true, if_true, Bool.true_and, decide_eq_true_eq,
    Nat.add_right_cancel_iff (n := 1) (k := 143)] at hacc hline hrequests houtputs
  have hon : ioBit (s.lcdUpdate 456) 0xFF40 7 = true := by
    rw [ioBit, hbytes _ (by decide) (by decide) (by decide)]
    exact h.on
  refine ⟨⟨hon, hacc, ?_⟩, ?_, houtputs⟩
  · rw [hline]
    split_ifs <;> omega
  · have hvblank : (if n = 143 then 0x01 else 0x00 : Byte).getLsbD 0 = decide (n = 143) := by
      by_cases h143 : n = 143 <;> simp [h143]
    have hstat : ∀ b : Bool, (if b = true then 0x02 else 0x00 : Byte).getLsbD 0 = false := by decide
    rw [ioBit, hrequests, BitVec.getLsbD_or, BitVec.getLsbD_or, hvblank, hstat, Bool.or_false]
    rfl

theorem atLine_lineUpdates {s : State} (h : AtLine 0 s) {n : Nat} (hn : n ≤ 153) : AtLine n (lineUpdates n s) := by
  induction n with
  | zero => exact h
  | succ n ih =>
    have hnext := (lineUpdated_lcdUpdate (ih (by omega)) (by omega)).next
    rwa [if_neg (by omega)] at hnext

theorem lineUpdated_succ {s : State} (h : AtLine 0 s) {n : Nat} (hn : n ≤ 153) :
    LineUpdated n (lineUpdates n s) (lineUpdates (n + 1) s) :=
  lineUpdated_lcdUpdate (atLine_lineUpdates h hn) hn

/-- A frame is handed out by the 144th update only. -/
theorem outputs_lineUpdates {s : State} (h : AtLine 0 s) {n : Nat} (hn : n ≤ 154) :
    (lineUpdates n s).outputs = if n < 144 then s.outputs else .present (lineUpdates 144 s).framebuffer :: s.outputs := by
  induction n with
  | zero => rfl
  | succ n ih =>
    rw [(lineUpdated_succ h (by omega)).outputs, ih (by omega)]
    obtain hlt | rfl | hgt := Nat.lt_trichotomy n 143
    · rw [if_neg (by omega), if_pos (by omega), if_pos (by omega)]
    · rfl
    · rw [if_neg (by omega), if_neg (by omega), if_neg (by omega)]

end Sys2Proof.Statements
end

section
/-! The obligation about a whole frame. -/

namespace Sys2Proof.Proofs

open Sys2Proof.Machine Sys2Proof.Statements

/-- Settles O51, line by line. -/
theorem scanlineWrap : Obligations.ScanlineWrap := by
  intro s hon hline hacc
  have h : AtLine 0 s := ⟨hon, hacc, congrArg BitVec.toNat hline⟩
  have hlast := (lineUpdated_succ h (le_refl 153)).next
  exact ⟨fun n hn => (atLine_lineUpdates h hn).line, BitVec.eq_of_toNat_eq hlast.line,
    fun n hn => (lineUpdated_succ h (by omega)).vblank, outputs_lineUpdates h (le_refl 154)⟩

end Sys2Proof.Proofs
end

/-! ## Proofs about the host and the reset (60_exceptions.md R550 to R561; 70_reset_and_hazards.md) -/
section
/-! What the host's interactions leave: the default bytes, the inserted cartridge, the invariant (R45, R46, R76 to R78, R560, R601). -/

namespace Sys2Proof.Statements

open Sys2Proof.Machine

/-! ### What an unwritten byte of `mem` reads as -/

theorem memDefault_of_lt (c : Config) {a : Nat} (h : a < 0x8000) : memDefault c a = 0x00 := if_pos h

theorem memDefault_of_boot {c : Config} {boot : List Byte} {a : Nat} (hboot : c.bootRom = some boot) (h : 0x8000 ≤ a) :
    memDefault c a = c.initMem := by
  rw [memDefault, if_neg (Nat.not_lt.2 h), hboot]

/-- R76. -/
theorem memDefault_of_mem_ioTable {c : Config} (hboot : c.bootRom = none) : ∀ p ∈ ioTable, memDefault c p.1 = p.2 := by
  have htable : ∀ p ∈ ioTable, ¬ p.1 < 0x8000 ∧ ioResetBytes.lookup p.1 = some p.2 := by decide
  intro p hp
  obtain ⟨hhigh, hlookup⟩ := htable p hp
  rw [memDefault, if_neg hhigh, hboot]
  dsimp only
  rw [hlookup]

/-- R76, R77. -/
theorem memDefault_of_not_mem_ioTable (c : Config) {a : Nat} (h : 0x8000 ≤ a) (hne : ∀ p ∈ ioTable, a ≠ p.1) :
    memDefault c a = c.initMem := by
  cases hboot : c.bootRom with
  | some boot => exact memDefault_of_boot hboot h
  | none =>
    have hlookup : ioResetBytes.lookup a = none := List.lookup_eq_none_iff.2 fun p hp => bne_iff_ne.2 (hne p hp)
    rw [memDefault, if_neg (Nat.not_lt.2 h), hboot]
    dsimp only
    rw [hlookup]

/-! ### Byte lists -/

theorem getD_take_of_lt {l : List Byte} {n a : Nat} (h : a < n) : (l.take n).getD a 0 = l.getD a 0 := by
  rw [List.getD_eq_getElem?_getD, List.getD_eq_getElem?_getD, List.getElem?_take_of_lt h]

theorem getD_map_range {f : Nat → Byte} {n a : Nat} (h : a < n) : ((List.range n).map f).getD a 0 = f a := by
  rw [List.getD_eq_getElem?_getD, List.getElem?_map, List.getElem?_range h]
  rfl

/-- A byte inside the list or 0x00 past its end. -/
theorem ite_length_getD (l : List Byte) (a : Nat) : (if a < l.length then l.getD a 0 else 0) = l.getD a 0 := by
  split
  · rfl
  · next h => exact (List.getD_eq_default _ _ (Nat.not_lt.1 h)).symm

/-! ### The inserted cartridge -/

theorem length_lowBytes (c : Config) (image : List Byte) : (lowBytes c image).length ≤ 0x8000 := by
  unfold lowBytes
  split
  · exact List.length_take_le _ _
  · have hboot (boot : List Byte) : (bootBytes boot).length = 256 := by rw [bootBytes, List.length_map, List.length_range]
    rw [List.length_append, hboot, List.length_drop]
    have := List.length_take_le 0x8000 image
    omega

theorem getD_lowBytes_of_noBoot {c : Config} (hboot : c.bootRom = none) (image : List Byte) {a : Nat} (ha : a < 0x8000) :
    (lowBytes c image).getD a 0 = image.getD a 0 := by
  rw [lowBytes, hboot]
  exact getD_take_of_lt ha

theorem getD_lowBytes_of_boot {c : Config} {boot : List Byte} (hboot : c.bootRom = some boot) (image : List Byte) {a : Nat}
    (ha : a < 0x8000) : (lowBytes c image).getD a 0 = if a < 256 then boot.getD a 0 else image.getD a 0 := by
  have hlength : (bootBytes boot).length = 256 := by rw [bootBytes, List.length_map, List.length_range]
  rw [lowBytes, hboot]
  dsimp only
  split
  · next h =>
    rw [List.getD_append _ _ _ _ (by omega)]
    exact getD_map_range h
  · next h =>
    rw [List.getD_append_right _ _ _ _ (by omega), hlength, List.getD_eq_getElem?_getD, List.getElem?_drop,
      ← List.getD_eq_getElem?_getD, show 256 + (a - 256) = a by omega]
    exact getD_take_of_lt ha

/-- R601 steps 6 to 8. -/
theorem memAt_insertCartridge (s : State) (image : List Byte) (a : Nat) : (s.insertCartridge image).memAt a =
    if a < (lowBytes s.cfg image).length then (lowBytes s.cfg image).getD a 0 else memDefault s.cfg a :=
  (Memory.read_ofBytes (memDefault s.cfg) 0 a (lowBytes s.cfg image)).trans (by simp)

theorem memAt_insertCartridge_low (s : State) (image : List Byte) {a : Nat} (ha : a < 0x8000) :
    (s.insertCartridge image).memAt a = (lowBytes s.cfg image).getD a 0 := by
  rw [memAt_insertCartridge, memDefault_of_lt _ ha]
  exact ite_length_getD _ a

theorem memAt_insertCartridge_high (s : State) (image : List Byte) {a : Nat} (ha : 0x8000 ≤ a) :
    (s.insertCartridge image).memAt a = memDefault s.cfg a := by
  rw [memAt_insertCartridge, if_neg (Nat.not_lt.2 ((length_lowBytes _ _).trans ha))]

theorem romAt_insertCartridge (s : State) (image : List Byte) {a : Nat} (ha : a < 0x200000) :
    (s.insertCartridge image).romAt a = image.getD a 0 := by
  refine (Memory.read_ofBytes zeroDefault 0 a (image.take 0x200000)).trans ?_
  simp only [Nat.zero_le, true_and, Nat.zero_add, Nat.sub_zero]
  exact (ite_length_getD _ a).trans (getD_take_of_lt ha)

/-- R76. -/
theorem startRegisters_insertCartridge {s : State} (hboot : s.cfg.bootRom = none) (image : List Byte) :
    StartRegisters (s.insertCartridge image) ∧ (s.insertCartridge image).bootMapped = false := by
  unfold State.insertCartridge State.startRegisters
  rw [hboot]
  exact ⟨⟨rfl, rfl, rfl, rfl, rfl, rfl, rfl, rfl, rfl, rfl⟩, rfl⟩

/-- R77. -/
theorem bootRegisters_insertCartridge {s : State} {boot : List Byte} (hboot : s.cfg.bootRom = some boot) (image : List Byte) :
    BootRegisters (s.insertCartridge image) ∧ (s.insertCartridge image).bootMapped = true := by
  unfold State.insertCartridge State.startRegisters
  rw [hboot]
  exact ⟨⟨rfl, rfl, rfl, rfl, rfl, rfl, rfl, rfl, rfl, rfl⟩, rfl⟩

/-- A boot ROM changes the general registers, SP, PC and `bootMapped` (R77). -/
theorem startRegisters_eq (s : State) (c : Config) : s.startRegisters c =
    { s with
      a := (s.startRegisters c).a
      f := (s.startRegisters c).f
      b := (s.startRegisters c).b
      c := (s.startRegisters c).c
      d := (s.startRegisters c).d
      e := (s.startRegisters c).e
      h := (s.startRegisters c).h
      l := (s.startRegisters c).l
      sp := (s.startRegisters c).sp
      pc := (s.startRegisters c).pc
      bootMapped := (s.startRegisters c).bootMapped } := by
  unfold State.startRegisters
  split <;> rfl

theorem framebufferBlack_reset : FramebufferBlack State.reset := by
  refine ⟨List.length_replicate, fun row hrow => ?_⟩
  cases List.eq_of_mem_replicate hrow
  exact ⟨List.length_replicate, fun p hp => List.eq_of_mem_replicate hp⟩

theorem hiddenStateReset_reset : HiddenStateReset State.reset :=
  ⟨rfl, rfl, rfl, rfl, rfl, rfl, rfl, rfl, rfl, rfl, rfl, rfl, rfl, rfl, rfl⟩

/-- R78. -/
theorem hiddenStateReset_insertCartridge (s : State) (image : List Byte) : HiddenStateReset (s.insertCartridge image) := by
  unfold State.insertCartridge
  rw [startRegisters_eq]
  exact hiddenStateReset_reset

theorem framebuffer_insertCartridge (s : State) (image : List Byte) :
    (s.insertCartridge image).framebuffer = State.reset.framebuffer := by
  unfold State.insertCartridge
  rw [startRegisters_eq]

theorem framebufferBlack_insertCartridge (s : State) (image : List Byte) : FramebufferBlack (s.insertCartridge image) := by
  rw [FramebufferBlack, framebuffer_insertCartridge]
  exact framebufferBlack_reset

/-- The load's battery RAM: the inserted cartridge with the bytes supplied for type 0x03, else 0x00 (R601 step 4, U3). -/
theorem loadCartridge_of_supported (s : State) (image : List Byte) (battery : Option (List Byte))
    (h : (imageType image).toNat ≤ 0x03) : ∃ t, s.loadCartridge (some image) battery = .loaded t
      (if imageType image ≠ 0x03 then some .noBattery else if battery = none then some .fileMissing else none) ∧
    t = { s.insertCartridge image with ram := t.ram } ∧
    ∀ a, a < 0x8000 → t.ramAt a = if imageType image = 0x03 then (battery.getD []).getD a 0 else 0 := by
  have hram (a : Nat) : (s.insertCartridge image).ramAt a = 0 := by
    unfold State.insertCartridge
    rw [startRegisters_eq]
    rfl
  obtain ⟨hbad, -⟩ | ⟨-, ⟨l, htype, rfl, hload⟩ | ⟨htype, rfl, hload⟩ | ⟨htype, hload⟩⟩ := s.loadCartridge_cases image battery
  · exact absurd h (Nat.not_le.2 hbad)
  · refine ⟨(s.insertCartridge image).fillRam 0 (l.take 0x8000), ?_, State.fillRam_eq _ 0 _, fun a ha => ?_⟩
    · rw [hload, if_neg (not_not_intro htype), if_neg (Option.some_ne_none l)]
    · rw [State.ramAt_fillRam, hram, if_pos htype, Option.getD_some, ← getD_take_of_lt ha]
      simp only [Nat.zero_le, true_and, Nat.zero_add, Nat.sub_zero]
      exact ite_length_getD _ a
  · refine ⟨s.insertCartridge image, ?_, rfl, fun a _ => ?_⟩
    · rw [hload, if_neg (not_not_intro htype), if_pos rfl]
    · rw [hram, if_pos htype]
      rfl
  · refine ⟨s.insertCartridge image, ?_, rfl, fun a _ => ?_⟩
    · rw [hload, if_pos htype]
    · rw [hram, if_neg htype]

/-! ### The restored state -/

theorem restored_eq (u : State) (image : List Byte) (r : RegisterDump) : u.restored image r =
    { u with
      mem := (u.restored image r).mem
      a := hiByte r.af
      f := loByte r.af &&& 0xF0
      b := hiByte r.bc
      c := loByte r.bc
      d := hiByte r.de
      e := loByte r.de
      h := hiByte r.hl
      l := loByte r.hl
      pc := r.pc
      sp := r.sp
      cycleCount := r.cycleCount
      imePending := r.imePending
      halted := r.halted
      stopped := r.stopped
      instructionsExecuted := r.instructionsExecuted } := rfl

/-- F as it reads keeps its four flags (R35). -/
theorem loByte_af_masked (s : State) : loByte s.af &&& 0xF0 = fByte (zOf s) (nOf s) (hOf s) (cOf s) := by
  rw [State.af, loByte_mkWord, State.fReg, BitVec.and_assoc]
  exact (fByte_bits s.f).symm

theorem restored_registers (s u : State) (image : List Byte) : u.restored image s.saveState.registers =
    { u with
      mem := (u.restored image s.saveState.registers).mem
      a := s.a
      f := fByte (zOf s) (nOf s) (hOf s) (cOf s)
      b := s.b
      c := s.c
      d := s.d
      e := s.e
      h := s.h
      l := s.l
      pc := s.pc
      sp := s.sp
      cycleCount := s.cycleCount
      imePending := s.imePending
      halted := s.halted
      stopped := s.stopped
      instructionsExecuted := s.instructionsExecuted } := by
  have ha : hiByte s.saveState.registers.af = s.a := hiByte_mkWord s.a s.fReg
  have hf : loByte s.saveState.registers.af &&& 0xF0 = fByte (zOf s) (nOf s) (hOf s) (cOf s) := loByte_af_masked s
  have hb : hiByte s.saveState.registers.bc = s.b := hiByte_mkWord s.b s.c
  have hc : loByte s.saveState.registers.bc = s.c := loByte_mkWord s.b s.c
  have hd : hiByte s.saveState.registers.de = s.d := hiByte_mkWord s.d s.e
  have he : loByte s.saveState.registers.de = s.e := loByte_mkWord s.d s.e
  have hh : hiByte s.saveState.registers.hl = s.h := hiByte_mkWord s.h s.l
  have hl : loByte s.saveState.registers.hl = s.l := loByte_mkWord s.h s.l
  refine (restored_eq u image _).trans ?_
  rw [ha, hf, hb, hc, hd, he, hh, hl]
  rfl

/-! ### The invariant -/

/-- The inserted cartridge meets the invariant if its INIT_MEM is a line number. -/
theorem inv_insertCartridge (s : State) (image : List Byte) (htype : (imageType image).toNat ≤ 0x03)
    (hinit : s.cfg.initMem.toNat ≤ 153) : (s.insertCartridge image).Inv := by
  have hioHigh : ∀ p ∈ ioTable, 0xFF05 ≤ p.1 ∧ p.1 ≠ 0xFF44 := by decide
  have hplain {a : Nat} (h1 : 0x8000 ≤ a) (h2 : a < 0xFF05 ∨ a = 0xFF44) : (s.insertCartridge image).memAt a = s.cfg.initMem := by
    rw [memAt_insertCartridge_high s image h1]
    refine memDefault_of_not_mem_ioTable _ h1 fun p hp => ?_
    have := hioHigh p hp
    omega
  have hline : (s.insertCartridge image).LineInRange := by
    rw [State.LineInRange, hplain (by decide) (.inr rfl)]
    exact hinit
  have hflags : (s.insertCartridge image).FlagsLowZero := by
    cases hboot : s.cfg.bootRom with
    | none =>
      obtain ⟨⟨-, hf, -⟩, -⟩ := startRegisters_insertCartridge hboot image
      rw [State.FlagsLowZero, hf]
      rfl
    | some boot =>
      obtain ⟨⟨-, hf, -⟩, -⟩ := bootRegisters_insertCartridge hboot image
      rw [State.FlagsLowZero, hf]
      rfl
  obtain ⟨-, -, -, -, -, -, -, hdiv, -, hlcd, hbank, -, henabled, -⟩ := hiddenStateReset_insertCartridge s image
  obtain ⟨hrows, hblack⟩ := framebufferBlack_insertCartridge s image
  have hram : (s.insertCartridge image).ram = [] ∧ (s.insertCartridge image).stepCycles = 0 := by
    unfold State.insertCartridge
    rw [startRegisters_eq]
    exact ⟨rfl, rfl⟩
  refine ⟨⟨?_, ?_, ?_⟩, fun a h1 h2 => ?_, hflags, ?_, ⟨htype, fun _ => henabled⟩, hline,
    ⟨hrows, fun row hrow => ⟨(hblack row hrow).1, fun p hp => .inl ((hblack row hrow).2 p hp)⟩⟩, ⟨?_, fun _ => ?_, hram.2⟩⟩
  · exact Memory.wf_ofBytes _ _ _ ((length_lowBytes s.cfg image).trans (by decide))
  · exact Memory.wf_ofBytes _ _ _ (List.length_take_le _ _)
  · rw [hram.1]
    rfl
  · rw [hplain (by omega) (by omega), hplain (by omega) (by omega)]
  · rw [State.BankReachable, hbank]
    decide
  · rw [hdiv]
    decide
  · rw [hlcd]
    decide

theorem reset_eq_insertCartridge : State.reset = State.reset.insertCartridge [] := rfl

/-- Filling the battery RAM keeps the invariant. -/
theorem inv_fillRam {s : State} (h : s.Inv) (l : List Byte) : (s.fillRam 0 (l.take 0x8000)).Inv := by
  obtain ⟨⟨hmem, hrom, hram⟩, hecho, hflags, hbank, hcartridge, hline, hframe, ⟨hdiv, hlcd, hdelta⟩⟩ := h
  have hwf := s.wf_fillRam 0 (l.take 0x8000) (by rw [Nat.zero_add]; exact List.length_take_le _ _) hram
  rw [State.fillRam_eq]
  exact ⟨⟨hmem, hrom, hwf⟩, hecho, hflags, hbank, hcartridge, hline, hframe, ⟨hdiv, hlcd, hdelta⟩⟩

theorem inv_keyRelease {s : State} (h : s.Inv) (b : Fin 8) : (s.keyRelease b).Inv := by
  obtain ⟨⟨hmem, hrom, hram⟩, hecho, hflags, hbank, hcartridge, hline, hframe, ⟨hdiv, hlcd, hdelta⟩⟩ := h
  exact ⟨⟨hmem, hrom, hram⟩, hecho, hflags, hbank, hcartridge, hline, hframe, ⟨hdiv, hlcd, hdelta⟩⟩

theorem inv_keyPress {s : State} (h : s.Inv) (b : Fin 8) : (s.keyPress b).Inv := by
  unfold State.keyPress
  split
  · exact h
  · have hrequest := h.busInv.onlyMem (onlyMem_requestInterrupt (A := fun x => x = 0xFF0F) s 4 rfl) (by omega)
    obtain ⟨⟨hmem, hrom, hram⟩, hecho, hbank, hcartridge, hline⟩ := hrequest
    exact ⟨⟨hmem, hrom, hram⟩, hecho, h.flags, hbank, hcartridge, hline, h.frame,
      ⟨h.accumulators.div, h.accumulators.lcd, h.accumulators.delta⟩⟩

end Sys2Proof.Statements
end

section
/-! The obligations about the host and the reset. -/

namespace Sys2Proof.Proofs

open Sys2Proof.Machine Sys2Proof.Statements

/-- Settles O52: the memories list nothing, so every byte is its default. -/
theorem resetValues : Obligations.ResetValues := by
  have hmem (a : Nat) : State.reset.memAt a = memDefault Config.default a := rfl
  have hFF0F : memDefault Config.default 0xFF0F = 0x00 := memDefault_of_not_mem_ioTable _ (by decide) (by decide)
  have hFF00 : memDefault Config.default 0xFF00 = 0x00 := memDefault_of_not_mem_ioTable _ (by decide) (by decide)
  refine ⟨⟨rfl, rfl, rfl, rfl, rfl, rfl, rfl, rfl, rfl, rfl⟩, hiddenStateReset_reset, framebufferBlack_reset, rfl,
    fun p hp => (hmem p.1).trans (memDefault_of_mem_ioTable rfl p hp),
    fun a ha hne => (hmem a).trans (memDefault_of_not_mem_ioTable _ ha hne), fun a ha => (hmem a).trans (memDefault_of_lt _ ha),
    fun _ => rfl, fun _ => rfl, rfl, ?_, rfl, ?_, rfl⟩
  · rw [State.readByte_requests _ rfl, hmem, hFF0F]
    rfl
  · rw [State.readByte_joypad, State.joypadRead, hmem, hFF00]
    rfl

/-- Settles O53: the inserted cartridge byte by byte, and its battery RAM. -/
theorem loadCartridgeResets : Obligations.LoadCartridgeResets := by
  intro s image battery kind
  refine ⟨rfl, fun hkind => ?_, fun hkind => ?_⟩
  · obtain ⟨-, hload⟩ | ⟨hsupported, -⟩ := s.loadCartridge_cases image battery
    · exact hload
    · exact absurd hkind (Nat.not_lt.2 hsupported)
  · obtain ⟨t, hload, hrest, hram⟩ := loadCartridge_of_supported s image battery hkind
    have hmem (a : Nat) : t.memAt a = (s.insertCartridge image).memAt a := by
      rw [hrest]
      rfl
    refine ⟨t, _, hload, rfl, fun u htype hsome hsaved a ha => ?_, ?_⟩
    · rw [hram a ha, if_pos (show imageType image = 0x03 from htype), ← hsaved]
      unfold State.saveBatteryRam at hsaved ⊢
      split at hsaved
      · next hbattery => rw [if_pos hbattery, Option.getD_some, getD_map_range ha]
      · rw [← hsaved] at hsome
        cases hsome
    · have hlow {a : Nat} (ha : a < 0x8000) : t.memAt a = (lowBytes s.cfg image).getD a 0 := by
        rw [hmem, memAt_insertCartridge_low s image ha]
      have hhigh {a : Nat} (ha : 0x8000 ≤ a) : t.memAt a = memDefault s.cfg a := by
        rw [hmem, memAt_insertCartridge_high s image ha]
      have hio : ∀ p ∈ ioTable, 0x8000 ≤ p.1 := by decide
      refine ⟨?_, ?_, ?_, fun a ha => ?_, hram, fun hboot => ?_, fun boot hboot hlength => ?_, ?_, ?_⟩
      · rw [hrest]
        rfl
      · rw [hrest, State.insertCartridge, startRegisters_eq]
        rfl
      · rw [hrest]
        rfl
      · rw [hrest]
        exact romAt_insertCartridge s image ha
      · obtain ⟨hregisters, hunmapped⟩ := startRegisters_insertCartridge hboot image
        refine ⟨?_, ?_, fun a ha => ?_, fun p hp => ?_, fun a ha hne => ?_⟩
        · rw [hrest]
          exact hregisters
        · rw [hrest]
          exact hunmapped
        · rw [hlow ha, getD_lowBytes_of_noBoot hboot image ha]
        · rw [hhigh (hio p hp), memDefault_of_mem_ioTable hboot p hp]
        · rw [hhigh ha, memDefault_of_not_mem_ioTable _ ha hne]
      · obtain ⟨hregisters, hmapped⟩ := bootRegisters_insertCartridge hboot image
        refine ⟨?_, ?_, fun a ha => ?_, fun a h1 h2 => ?_, fun a ha => ?_⟩
        · rw [hrest]
          exact hregisters
        · rw [hrest]
          exact hmapped
        · rw [hlow (by omega), getD_lowBytes_of_boot hboot image (by omega), if_pos ha]
        · rw [hlow h2, getD_lowBytes_of_boot hboot image h2, if_neg (Nat.not_lt.2 h1)]
        · rw [hhigh ha, memDefault_of_boot hboot ha]
      · rw [hrest]
        exact hiddenStateReset_insertCartridge s image
      · rw [hrest]
        exact framebufferBlack_insertCartridge s image

/-- Settles O55: the image is every byte of `mem`, and the dump's F is F with its low nibble masked. -/
theorem saveStateRoundTrip : Obligations.SaveStateRoundTrip := by
  intro s u
  refine ⟨fun _ => rfl, fun image => ?_, _, State.loadState_some u _ _, fun a ha => ?_, ?_⟩
  · cases image <;> rfl
  · have htake : ((List.range 0x10000).map s.memAt).take 0x10000 = (List.range 0x10000).map s.memAt :=
      List.take_of_length_le (by rw [List.length_map, List.length_range])
    rw [State.memAt_restored, State.saveState_image, htake, List.length_map, List.length_range, if_pos ha, getD_map_range ha]
  · exact restored_registers s u _

/-- Settles O56: the reset state is the load of the empty image. -/
theorem invariantAtReset : Obligations.InvariantAtReset := by
  unfold Obligations.InvariantAtReset
  rw [reset_eq_insertCartridge]
  exact inv_insertCartridge State.reset [] (by decide) (by decide)

/-- Settles O58: a key event writes IF, a battery load fills `ram`, and a cartridge load starts from the invariant. -/
theorem hostKeepsInvariant : Obligations.HostKeepsInvariant := by
  refine ⟨fun s b h => ⟨inv_keyPress h b, inv_keyRelease h b⟩, fun s t bytes h hload => ?_,
    fun s t image battery why hinit hload => ?_⟩
  · obtain ⟨-, hfail⟩ | ⟨-, -, hfail⟩ | ⟨l, -, -, hdone⟩ := s.loadBatteryRam_cases bytes
    · cases hload.symm.trans hfail
    · cases hload.symm.trans hfail
    · cases hload.symm.trans hdone
      exact inv_fillRam h l
  · cases image with
    | none => cases hload
    | some image =>
      obtain ⟨-, hfail⟩ | ⟨htype, ⟨l, -, -, hdone⟩ | ⟨-, -, hdone⟩ | ⟨-, hdone⟩⟩ := s.loadCartridge_cases image battery
      · cases hload.symm.trans hfail
      · cases hload.symm.trans hdone
        exact inv_fillRam (inv_insertCartridge s image htype hinit) l
      all_goals
        cases hload.symm.trans hdone
        exact inv_insertCartridge s image htype hinit

end Sys2Proof.Proofs
end
